-- ==== Sys2Proof/Word.lean ====
section
/-! DEFINITION. The words of the block: bits, bytes and 32-bit words (00_scope.md R9, R10). -/

namespace Sys2Proof

/-- One bit: a level (Low = 0, High = 1), a direction (Input = 0, Output = 1) or a one-bit register
(30_encoding.md R73, 00_scope.md R12). -/
abbrev Bit := BitVec 1

/-- One byte: a frame byte, a temperature or a humidity (00_scope.md R9). -/
abbrev Byte := BitVec 8

/-- A 32-bit word: a counter, a command word or a reader-port word (00_scope.md R9, 30_encoding.md R81). -/
abbrev Word := BitVec 32

end Sys2Proof
end

