-- ==== Sys2Proof/Syntax.lean ====
section
/-! DEFINITION. The instructions of the block, one constructor per row of spec/opcode_table.json, and the
three spaces their codes live in (30_encoding.md R70, R74, R77). -/

namespace Sys2Proof

/-- What the block, the issuing agent or a reader can do in one step: a state arm (R70), a primitive
command (R74) or a reader-port read (R77). -/
inductive Instr where
  /-- IDLE, state code 0x0 (41_start_response.md R120). -/
  | idle
  /-- START_LOW, state code 0x1 (R121). -/
  | startLow
  /-- START_HIGH, state code 0x2 (R122). -/
  | startHigh
  /-- AWAIT_RESP_LOW, state code 0x3 (R123). -/
  | awaitRespLow
  /-- AWAIT_RESP_HIGH, state code 0x4 (R124). -/
  | awaitRespHigh
  /-- BIT_SYNC, state code 0x5 (42_bit_loop.md R140). -/
  | bitSync
  /-- BIT_WAIT_HIGH, state code 0x6 (R141). -/
  | bitWaitHigh
  /-- BIT_MEASURE, state code 0x7 (R142). -/
  | bitMeasure
  /-- CHECKSUM_VERIFY, state code 0x8 (43_check_publish.md R160). -/
  | checksumVerify
  /-- PUBLISH, state code 0x9 (R163). -/
  | publish
  /-- COOLDOWN, state code 0xA (R165). -/
  | cooldown
  /-- GPIO_SET_DIR, op 0x1: `b` the direction, `p` the preset level (40_line_and_clock.md R100). -/
  | gpioSetDir (b p : Bit)
  /-- GPIO_WRITE, op 0x2: `b` the level (R101). -/
  | gpioWrite (b : Bit)
  /-- GPIO_READ, op 0x3 (R102). -/
  | gpioRead
  /-- CLK_RESET, op 0x4 (R105). -/
  | clkReset
  /-- CLK_ELAPSED, op 0x5 (R106). -/
  | clkElapsed
  /-- DELAY_MS, op 0x6: `n` milliseconds (R108). -/
  | delayMs (n : BitVec 24)
  /-- DELAY_US, op 0x7: `n` microseconds (R109). -/
  | delayUs (n : BitVec 24)
  /-- CLASSIFY, op 0x8: `n` the width in samples (42_bit_loop.md R149). -/
  | classify (n : BitVec 24)
  /-- CHECKSUM, op 0x9 (43_check_publish.md R161). -/
  | checksum
  /-- STORE_PUBLISH, op 0xA (R166). -/
  | storePublish
  /-- STORE_READ, op 0xB (R167). -/
  | storeRead
  /-- READING, the reader-port word at 0x0 (20_memory.md R55). -/
  | reading
  /-- STATUS, the reader-port word at 0x4 (R55). -/
  | status
  deriving DecidableEq, Repr

/-- A request at the reader port: a read or a write at a byte offset, `width` bytes wide
(20_memory.md R56, R57). -/
inductive PortAccess where
  /-- A read request. -/
  | read (offset : Word) (width : Nat)
  /-- A write request; the port has none, so it is refused (R57). -/
  | write (offset : Word) (width : Nat) (data : Word)
  deriving DecidableEq, Repr

/-- Where an instruction is read from. The block has no instruction stream (30_encoding.md, opening): a state
arm is selected by the 4-bit code in `st`, a primitive by a 32-bit command word, a port read by a request. -/
inductive Code where
  /-- The 4-bit code in `st` (R70). -/
  | state (c : BitVec 4)
  /-- A 32-bit command word (R74). -/
  | command (w : Word)
  /-- A reader-port request (R56). -/
  | port (a : PortAccess)
  deriving DecidableEq, Repr

end Sys2Proof
end

