-- ==== Sys2Proof/WellFormed.lean ====
section
/-! DEFINITION. Which instructions an encoding can spell. -/

namespace Sys2Proof

/-- The one check the types do not make: GPIO_SET_DIR with `b = 0` takes no preset, so its `p` is 0
(30_encoding.md R74, R75). -/
def Instr.wellFormed : Instr → Bool
  | .idle => true
  | .startLow => true
  | .startHigh => true
  | .awaitRespLow => true
  | .awaitRespHigh => true
  | .bitSync => true
  | .bitWaitHigh => true
  | .bitMeasure => true
  | .checksumVerify => true
  | .publish => true
  | .cooldown => true
  | .gpioSetDir b p => b == 1#1 || p == 0#1
  | .gpioWrite _ => true
  | .gpioRead => true
  | .clkReset => true
  | .clkElapsed => true
  | .delayMs _ => true
  | .delayUs _ => true
  | .classify _ => true
  | .checksum => true
  | .storePublish => true
  | .storeRead => true
  | .reading => true
  | .status => true

end Sys2Proof
end

