-- ==== Sys2Proof/Decode.lean ====
section
/-! DEFINITION. Decoding, total on every code of the three spaces and rejecting by name, and after it the
encoder, both written from the tables of 30_encoding.md R70, R74 and 20_memory.md R55. -/

namespace Sys2Proof

/-- Why a code is no instruction. -/
inductive DecodeError where
  /-- A reserved state code, 0xB to 0xF (30_encoding.md R71). -/
  | reservedState
  /-- An illegal command word (30_encoding.md R75). -/
  | illegalPrimitive
  /-- A reader-port read of another width or offset, or misaligned (20_memory.md R56). -/
  | portForm
  /-- A reader-port write (20_memory.md R57). -/
  | portWrite
  deriving DecidableEq, Repr

/-! The state codes of 30_encoding.md R70. -/

@[simp] abbrev stIdle : BitVec 4 := 0x0#4
@[simp] abbrev stStartLow : BitVec 4 := 0x1#4
@[simp] abbrev stStartHigh : BitVec 4 := 0x2#4
@[simp] abbrev stAwaitRespLow : BitVec 4 := 0x3#4
@[simp] abbrev stAwaitRespHigh : BitVec 4 := 0x4#4
@[simp] abbrev stBitSync : BitVec 4 := 0x5#4
@[simp] abbrev stBitWaitHigh : BitVec 4 := 0x6#4
@[simp] abbrev stBitMeasure : BitVec 4 := 0x7#4
@[simp] abbrev stChecksumVerify : BitVec 4 := 0x8#4
@[simp] abbrev stPublish : BitVec 4 := 0x9#4
@[simp] abbrev stCooldown : BitVec 4 := 0xA#4

/-- The arm of a state code; 0xB to 0xF are reserved (R70, R71). -/
def decodeState (c : BitVec 4) : Except DecodeError Instr :=
  match c.toNat with
  | 0 => .ok .idle
  | 1 => .ok .startLow
  | 2 => .ok .startHigh
  | 3 => .ok .awaitRespLow
  | 4 => .ok .awaitRespHigh
  | 5 => .ok .bitSync
  | 6 => .ok .bitWaitHigh
  | 7 => .ok .bitMeasure
  | 8 => .ok .checksumVerify
  | 9 => .ok .publish
  | 10 => .ok .cooldown
  | _ => .error .reservedState

/-! The fields of a command word (30_encoding.md R74). -/

/-- `op = w[3:0]`. -/
def opField (w : Word) : BitVec 4 := w.extractLsb' 0 4
/-- `b = w[4]`. -/
def bField (w : Word) : Bit := w.extractLsb' 4 1
/-- `p = w[5]`. -/
def pField (w : Word) : Bit := w.extractLsb' 5 1
/-- `w[7:6]`, reserved, must be 0. -/
def zField (w : Word) : BitVec 2 := w.extractLsb' 6 2
/-- `n = w[31:8]`. -/
def nField (w : Word) : BitVec 24 := w.extractLsb' 8 24

/-- Whether `b`, `p` and the reserved bits, and `n`, are all 0 where an op takes no operand (R75). -/
def noOperand (w : Word) : Bool :=
  bField w == 0#1 && pField w == 0#1 && nField w == 0#24

/-- The primitive a command word spells, or its rejection (R74, R75). -/
def decodeCommand (w : Word) : Except DecodeError Instr :=
  if zField w ≠ 0#2 then .error .illegalPrimitive else
  match (opField w).toNat with
  | 1 => if nField w = 0#24 ∧ (bField w = 1#1 ∨ pField w = 0#1) then .ok (.gpioSetDir (bField w) (pField w)) else .error .illegalPrimitive
  | 2 => if nField w = 0#24 ∧ pField w = 0#1 then .ok (.gpioWrite (bField w)) else .error .illegalPrimitive
  | 3 => if noOperand w then .ok .gpioRead else .error .illegalPrimitive
  | 4 => if noOperand w then .ok .clkReset else .error .illegalPrimitive
  | 5 => if noOperand w then .ok .clkElapsed else .error .illegalPrimitive
  | 6 => if bField w = 0#1 ∧ pField w = 0#1 then .ok (.delayMs (nField w)) else .error .illegalPrimitive
  | 7 => if bField w = 0#1 ∧ pField w = 0#1 then .ok (.delayUs (nField w)) else .error .illegalPrimitive
  | 8 => if bField w = 0#1 ∧ pField w = 0#1 then .ok (.classify (nField w)) else .error .illegalPrimitive
  | 9 => if noOperand w then .ok .checksum else .error .illegalPrimitive
  | 10 => if noOperand w then .ok .storePublish else .error .illegalPrimitive
  | 11 => if noOperand w then .ok .storeRead else .error .illegalPrimitive
  | _ => .error .illegalPrimitive

/-- The read a reader-port request asks for: an aligned 32-bit read at 0x0 or 0x4, nothing else
(20_memory.md R55, R56, R57). -/
def decodePort : PortAccess → Except DecodeError Instr
  | .read offset width =>
    if width ≠ 4 then .error .portForm
    else if offset = 0x0#32 then .ok .reading
    else if offset = 0x4#32 then .ok .status
    else .error .portForm
  | .write _ _ _ => .error .portWrite

/-- The instruction of a code, whichever space it stands in. -/
def decode : Code → Except DecodeError Instr
  | .state c => decodeState c
  | .command w => decodeCommand w
  | .port a => decodePort a

/-- A command word from its fields, the reserved bits 0 (R74). -/
def commandWord (op : BitVec 4) (b p : Bit) (n : BitVec 24) : Word :=
  n ++ (0#2 ++ (p ++ (b ++ op)))

/-- The code of an instruction: its state code (R70), its command word (R74, R80) or its port read (R55). -/
def encode : Instr → Code
  | .idle => .state stIdle
  | .startLow => .state stStartLow
  | .startHigh => .state stStartHigh
  | .awaitRespLow => .state stAwaitRespLow
  | .awaitRespHigh => .state stAwaitRespHigh
  | .bitSync => .state stBitSync
  | .bitWaitHigh => .state stBitWaitHigh
  | .bitMeasure => .state stBitMeasure
  | .checksumVerify => .state stChecksumVerify
  | .publish => .state stPublish
  | .cooldown => .state stCooldown
  | .gpioSetDir b p => .command (commandWord 0x1#4 b p 0#24)
  | .gpioWrite b => .command (commandWord 0x2#4 b 0#1 0#24)
  | .gpioRead => .command (commandWord 0x3#4 0#1 0#1 0#24)
  | .clkReset => .command (commandWord 0x4#4 0#1 0#1 0#24)
  | .clkElapsed => .command (commandWord 0x5#4 0#1 0#1 0#24)
  | .delayMs n => .command (commandWord 0x6#4 0#1 0#1 n)
  | .delayUs n => .command (commandWord 0x7#4 0#1 0#1 n)
  | .classify n => .command (commandWord 0x8#4 0#1 0#1 n)
  | .checksum => .command (commandWord 0x9#4 0#1 0#1 0#24)
  | .storePublish => .command (commandWord 0xA#4 0#1 0#1 0#24)
  | .storeRead => .command (commandWord 0xB#4 0#1 0#1 0#24)
  | .reading => .port (.read 0x0#32 4)
  | .status => .port (.read 0x4#32 4)

/-- Whether a code is an instruction. -/
def Code.legal (c : Code) : Bool :=
  match decode c with
  | .ok _ => true
  | .error _ => false

/-- The code a table word stands for. A bare word does not say which space it is in, and some words stand in
two: the first of state code (a word of at most 8 bits), command word and port offset in which it is an
instruction is taken, and a command word where it is none (log entry 11). -/
def tableCode (nbits w : Nat) : Code :=
  if nbits ≤ 8 ∧ w < 16 ∧ (Code.state (BitVec.ofNat 4 w)).legal then .state (BitVec.ofNat 4 w)
  else if (Code.command (BitVec.ofNat 32 w)).legal then .command (BitVec.ofNat 32 w)
  else if (Code.port (.read (BitVec.ofNat 32 w) 4)).legal then .port (.read (BitVec.ofNat 32 w) 4)
  else .command (BitVec.ofNat 32 w)

/-- The instruction the decoder reads from a word of the opcode table; no code is wider than 32 bits
(30_encoding.md R81). -/
def decodeTableWord (nbits w : Nat) : Option Instr :=
  if w < 2 ^ 32 then
    match decode (tableCode nbits w) with
    | .ok i => some i
    | .error _ => none
  else none

end Sys2Proof
end

