-- ==== Sys2Proof/Config.lean ====
section
/-! DEFINITION. The configuration record of 00_scope.md R6 and the free values: what the spec calls a draw
or leaves unstated. A free value is a constant with no body, applied to a counter of State, so no proof
can use what it is. -/

namespace Sys2Proof

/-- The named constants of 00_scope.md R6, as exact numbers of ticks or samples.
`bitTimeout = none` is the spec's `BIT_TIMEOUT = none`, the unbounded wait. -/
structure Params where
  /-- `T_START_LOW`: ticks the line is driven Low in START_LOW. -/
  tStartLow : Nat
  /-- `T_START_HIGH`: ticks the line is driven High in START_HIGH. -/
  tStartHigh : Nat
  /-- `THRESH`: a pulse of width `w` decodes as 1 iff `w > THRESH`. -/
  thresh : Nat
  /-- `T_COOLDOWN`: ticks spent in COOLDOWN. -/
  tCooldown : Nat
  /-- `RESP_TIMEOUT`: sample budget of each AwaitResponse wait. -/
  respTimeout : Nat
  /-- `BIT_TIMEOUT`: sample budget of each bit-loop wait, or none. -/
  bitTimeout : Option Nat
  deriving DecidableEq, Repr

/-- The reference values of 00_scope.md R6. -/
def Params.reference : Params where
  tStartLow := 18000
  tStartHigh := 30
  thresh := 40
  tCooldown := 2000000
  respTimeout := 200
  bitTimeout := some 200

/-- The sample of `rst` in the tick numbered by the argument, when the environment has listed none: a free
value (10_state.md R38; log entry 1). DESIGN CHOICE, safe. -/
opaque Config.freeRst : Nat → Bit

/-- The sample of `go` in such a tick: a free value (93_implementation_defined.md U18; log entry 1).
DESIGN CHOICE, safe. -/
opaque Config.freeGo : Nat → Bit

/-- The sample `L` of `line_in` in such a tick: a free value (10_state.md R34, U9; log entry 1).
DESIGN CHOICE, safe. -/
opaque Config.freeLine : Nat → Bit

/-- What the issuing agent of the primitive view issues in such a tick: a free value (40_line_and_clock.md
R110 (a); log entry 1). DESIGN CHOICE, safe. -/
opaque Config.freeCmd : Nat → Option Word

/-- The draw the reset arm writes to `drv` (70_reset_and_hazards.md R240, 10_state.md R25; log entry 3).
DESIGN CHOICE, safe. -/
opaque Config.drvDraw : Nat → Bit

/-- What `dly` holds after an increment that does not fit in 32 bits; 43_check_publish.md R169 states no
result there (log entry 7). DESIGN CHOICE, safe. -/
opaque Config.dlyOverflow : Nat → Word

end Sys2Proof
end

