-- ==== Sys2Proof/Machine/State.lean ====
section
/-! DEFINITION. The state of the machine as plain data: the registers of 10_state.md R22, the configuration,
the input ports, and the environment's side of the interface. -/

namespace Sys2Proof.Machine

/-- The input ports as sampled in one tick (10_state.md R21), and the command word the issuing agent of the
primitive view gives in it (40_line_and_clock.md R110 (a)). -/
structure Pins where
  /-- `rst`: synchronous reset, active 1. -/
  rst : Bit
  /-- `go`: sampling-period trigger. -/
  go : Bit
  /-- `line_in`, sampled as `L`. -/
  line : Bit
  /-- The command word of this tick, at most one. -/
  cmd : Option Word
  deriving DecidableEq, Repr

/-- What the environment does next: the samples of one tick, or a reader's access at the reader port. -/
inductive Event where
  /-- One tick with these samples. -/
  | tick (pins : Pins)
  /-- A reader-port access, made before the next tick's writes (20_memory.md R54). -/
  | access (a : PortAccess)
  deriving DecidableEq, Repr

/-- Which view runs: the block's state arms, or the component contracts one primitive at a time
(40_line_and_clock.md R110). -/
inductive View where
  | block
  | primitive
  deriving DecidableEq, Repr

/-- The Checksum Validator's answer (43_check_publish.md R161). -/
inductive Verdict where
  | accepted
  | rejected
  deriving DecidableEq, Repr

/-- A result returned to the agent that asked for it; no register receives it (30_encoding.md R76). -/
inductive Response where
  /-- GPIO_READ: the sample of the line (40_line_and_clock.md R102). -/
  | level (b : Bit)
  /-- CLK_ELAPSED: the clock (R106). -/
  | elapsed (c : Word)
  /-- CLASSIFY: the decoded bit (42_bit_loop.md R149). -/
  | decoded (b : Bit)
  /-- CHECKSUM (43_check_publish.md R161). -/
  | verdict (v : Verdict)
  /-- STORE_READ: the pair, with `valid` alongside (43_check_publish.md R167). -/
  | stored (temp hum : Byte) (valid : Bit)
  /-- READING or STATUS: a reader-port word (20_memory.md R55). -/
  | word (w : Word)
  deriving DecidableEq, Repr

/-- The machine's state. -/
structure State where
  /-- `st`, the protocol state register (10_state.md R23). -/
  st : BitVec 4
  /-- `dir`, the line direction (R24). -/
  dir : Bit
  /-- `drv`, the drive level (R25). -/
  drv : Bit
  /-- `clk`, the Microsecond Clock (R26). -/
  clk : Word
  /-- `dly`, the delay counter (R27). -/
  dly : Word
  /-- `frame[0..4]`, the RawFrame (R28). -/
  frame : Vector Byte 5
  /-- `bi`, the bit index (R29). -/
  bi : BitVec 6
  /-- `temp`, the store's temperature (R30). -/
  temp : Byte
  /-- `hum`, the store's humidity (R30). -/
  hum : Byte
  /-- `valid`, the store's valid flag (R31). -/
  valid : Bit
  /-- `outcome`, how the last transaction ended (R32). -/
  outcome : BitVec 3
  /-- The configuration record (00_scope.md R6). -/
  params : Params
  /-- The input ports as sampled in the current tick (R21). -/
  pins : Pins
  /-- The view that runs (40_line_and_clock.md R110). -/
  view : View
  /-- Ticks a delay primitive still occupies the issuing agent (R108, R109). -/
  busy : Nat
  /-- The result returned in this step (R110 (d)). -/
  resp : Option Response
  /-- The environment's coming actions, oldest first (MODEL's own; log entry 1). -/
  events : List Event
  /-- Ticks taken so far, the key of free samples (MODEL's own; log entry 1). -/
  ticks : Nat
  /-- The key of the next draw of `drv` (MODEL's own; log entry 3). -/
  drawKey : Nat
  deriving DecidableEq, Repr

/-- Why the machine stops with a fault (60_exceptions.md R207). -/
inductive Fault where
  /-- Raised by GPIO_WRITE with `dir = 0` and GPIO_READ with `dir = 1` (R101, R102). Safe: the spec's own fault. -/
  | modeMisuse
  /-- Raised by the step for an illegal command word (30_encoding.md R75). Safe: the spec's own fault. -/
  | illegalPrimitive
  /-- Raised by a block tick with `rst = 0` for a reserved code in `st` (30_encoding.md R71). Safe: the spec's own fault;
  that no other step raises it is the model's reading, unsafe (log entry 19). -/
  | badState
  /-- Raised by BIT_MEASURE when a pulse ends with `bi >= 40`: there is no `frame[5]`; no run reaches it
  (10_state.md R39 (e); log entry 8). Safe: the machine stops. -/
  | frameIndex
  deriving DecidableEq, Repr

/-- Why the model has no meaning for a case (60_exceptions.md R207). -/
inductive Refusal where
  /-- Raised by exec's arm of an instruction not modelled. Safe: the machine stops. -/
  | notModelled (mnemonic : String)
  /-- Raised by the step under a configuration that 00_scope.md R8 does not admit. Safe: the spec's own refusal. -/
  | badConfig
  /-- Raised by the step for a reader-port read of another form (20_memory.md R56). Safe: the spec's own refusal. -/
  | portForm
  /-- Raised by the step for a reader-port write (20_memory.md R57). Safe: the spec's own refusal. -/
  | portWrite
  deriving DecidableEq, Repr

/-- The machine right after reset (10_state.md R37). `drv` has no reset value in the spec: DESIGN CHOICE 0,
unsafe (log entry 2). The fields that are no registers: log entry 4. -/
def State.reset : State where
  st := 0x0#4
  dir := 0#1
  drv := 0#1
  clk := 0#32
  dly := 0#32
  frame := #v[0#8, 0#8, 0#8, 0#8, 0#8]
  bi := 0#6
  temp := 0#8
  hum := 0#8
  valid := 0#1
  outcome := 0#3
  params := Params.reference
  pins := { rst := 0#1, go := 0#1, line := 0#1, cmd := none }
  view := .block
  busy := 0
  resp := none
  events := []
  ticks := 0
  drawKey := 0

end Sys2Proof.Machine
end

