-- ==== Sys2Proof/Machine/Operands.lean ====
section
/-! DEFINITION. What instructions read and how operands become numbers: parameters, counts, indexes, the
reader-port words, and the outputs (00_scope.md R8, R10; 30_encoding.md R76; 20_memory.md R54-R56). -/

namespace Sys2Proof.Machine

/-- `sat32(x) = min(x, 2^32 - 1)` (00_scope.md R10). -/
def sat32 (x : Nat) : Word := BitVec.ofNat 32 (min x (2 ^ 32 - 1))

/-- `sat32(c + 1)`, the clock's increment (40_line_and_clock.md R107). -/
def satInc (c : Word) : Word := sat32 (c.toNat + 1)

/-- A count the configuration admits as a hold or a timeout: `1 <= x < 2^32` (00_scope.md R8). -/
def countAdmitted (x : Nat) : Bool := 1 ≤ x && x < 2 ^ 32

/-- The configurations 00_scope.md R8 admits. -/
def admitted (p : Params) : Bool :=
  countAdmitted p.tStartLow && countAdmitted p.tStartHigh && countAdmitted p.tCooldown &&
  countAdmitted p.respTimeout && p.thresh < 2 ^ 32 &&
  match p.bitTimeout with
  | none => true
  | some t => countAdmitted t && p.thresh < t

/-- `max(1, 1000 * n)`, the ticks DELAY_MS occupies (40_line_and_clock.md R108). -/
def delayMsTicks (n : BitVec 24) : Nat := max 1 (1000 * n.toNat)

/-- `max(1, n)`, the ticks DELAY_US occupies (40_line_and_clock.md R109). -/
def delayUsTicks (n : BitVec 24) : Nat := max 1 n.toNat

/-- `CLASSIFY(w)`: 1 iff the width is above the threshold (42_bit_loop.md R144). -/
def classifyWidth (thresh w : Nat) : Bit := if thresh < w then 1#1 else 0#1

/-- `((byte << 1) | bit) mod 2^8` (42_bit_loop.md R145). -/
def shiftIn (byte : Byte) (bit : Bit) : Byte := (byte <<< 1) ||| bit.setWidth 8

/-- The modulo-256 sum of the four data bytes (43_check_publish.md R160). -/
def frameSum (f : Vector Byte 5) : Byte := f[0] + f[1] + f[2] + f[3]

/-- READING: `valid ++ temp ++ hum`, zero-extended (20_memory.md R55). -/
def State.readingWord (s : State) : Word := (s.valid ++ (s.temp ++ s.hum)).setWidth 32

/-- STATUS: `outcome ++ st`, zero-extended (20_memory.md R55). -/
def State.statusWord (s : State) : Word := (s.outcome ++ s.st).setWidth 32

/-- The byte a platform that splits the words sees at a byte offset of the port: little-endian lanes
(20_memory.md R56). The block itself answers only word reads, so no instruction calls this. -/
def State.portLane (s : State) (offset : Nat) : Option Byte :=
  if offset < 4 then some (s.readingWord.extractLsb' (8 * offset) 8)
  else if offset < 8 then some (s.statusWord.extractLsb' (8 * (offset - 4)) 8)
  else none

/-- The output ports (10_state.md R21). -/
structure Outputs where
  lineOe : Bit
  lineOut : Bit
  rdTemp : Byte
  rdHum : Byte
  rdValid : Bit
  rdOutcome : BitVec 3
  rdState : BitVec 4
  deriving DecidableEq, Repr

/-- Every output is a register's value (10_state.md R21). -/
def State.outputs (s : State) : Outputs where
  lineOe := s.dir
  lineOut := s.drv
  rdTemp := s.temp
  rdHum := s.hum
  rdValid := s.valid
  rdOutcome := s.outcome
  rdState := s.st

/-- The level the block drives on the pin, or none where it does not drive it (10_state.md R33). -/
def State.pinDriven (s : State) : Option Bit := if s.dir = 1#1 then some s.drv else none

/-- What a reader's `read()` returns (20_memory.md R54). -/
structure Snapshot where
  temp : Byte
  hum : Byte
  valid : Bit
  outcome : BitVec 3
  st : BitVec 4
  deriving DecidableEq, Repr

/-- The one snapshot all readers of a tick get: the start-of-tick registers (20_memory.md R54). -/
def State.snapshot (s : State) : Snapshot where
  temp := s.temp
  hum := s.hum
  valid := s.valid
  outcome := s.outcome
  st := s.st

end Sys2Proof.Machine
end

