-- ==== Sys2Proof/Machine/Flags.lean ====
section
/-! DEFINITION. The block's two flags, `valid` and `outcome` (10_state.md R36), and the decisions that set them. -/

namespace Sys2Proof.Machine

/-! The outcome codes of 30_encoding.md R72. -/

@[simp] abbrev outcomeNone : BitVec 3 := 0#3
@[simp] abbrev outcomeAccepted : BitVec 3 := 1#3
@[simp] abbrev outcomeNoResponse : BitVec 3 := 2#3
@[simp] abbrev outcomeMismatch : BitVec 3 := 3#3
@[simp] abbrev outcomeAllZero : BitVec 3 := 4#3
@[simp] abbrev outcomeBitTimeout : BitVec 3 := 5#3

/-- `CHECKSUM_RESULT(f)` as an outcome code: a mismatch comes before the zero test (43_check_publish.md R161,
R162). -/
def checksumResult (f : Vector Byte 5) : BitVec 3 :=
  if frameSum f ≠ f[4] then outcomeMismatch
  else if frameSum f = 0#8 then outcomeAllZero
  else outcomeAccepted

/-- What the CHECKSUM primitive returns (43_check_publish.md R161). -/
def checksumVerdict (f : Vector Byte 5) : Verdict :=
  if checksumResult f = outcomeAccepted then .accepted else .rejected

end Sys2Proof.Machine
end

