-- ==== Sys2Proof/Machine/Ops.lean ====
section
/-! DEFINITION. The named operations the arms and primitives share. Each is the set of writes that commit at
the end of one tick (00_scope.md R11); every read is of the start-of-tick state. -/

namespace Sys2Proof.Machine

/-- The abort `raise Outcome(o)`, the block's analogue of taking an exception: exactly these four writes
(60_exceptions.md R202). -/
def State.abort (s : State) (o : BitVec 3) : State :=
  { s with outcome := o, dly := 0#32, clk := 0#32, st := stCooldown }

/-- The return from an abort, and from every transaction: COOLDOWN to IDLE; nothing is restored
(60_exceptions.md R204, 43_check_publish.md R165). -/
def State.returnToIdle (s : State) : State := { s with dly := 0#32, st := stIdle }

/-- The reset arm (70_reset_and_hazards.md R240). `drv` is a draw, a free value (log entry 3). -/
def State.resetArm (s : State) : State :=
  { s with
    st := stIdle
    dir := 0#1
    drv := Config.drvDraw s.drawKey
    clk := 0#32
    dly := 0#32
    frame := #v[0#8, 0#8, 0#8, 0#8, 0#8]
    bi := 0#6
    temp := 0#8
    hum := 0#8
    valid := 0#1
    outcome := outcomeNone }

/-- GPIO_SET_DIR: Output with its preset level in one commit, or Input with `drv` kept
(40_line_and_clock.md R100, R103, R104). -/
def State.setDirection (s : State) (b p : Bit) : State :=
  if b = 1#1 then { s with drv := p, dir := 1#1 } else { s with dir := 0#1 }

/-- IDLE's writes on `go = 1`: preset Low and drive, and clear the transaction's registers
(41_start_response.md R120). -/
def State.startTransaction (s : State) : State :=
  { s with
    drv := 0#1
    dir := 1#1
    frame := #v[0#8, 0#8, 0#8, 0#8, 0#8]
    bi := 0#6
    dly := 0#32
    clk := 0#32
    st := stStartLow }

/-- Whether this tick is the last of a hold: `dly + 1 = T`, on exact values (41_start_response.md R121). -/
def State.holdDone (s : State) (t : Nat) : Bool := s.dly.toNat + 1 == t

/-- `dly <- dly + 1`, exact; a free value where it does not fit in 32 bits, which no run reaches
(43_check_publish.md R169; log entry 7). -/
def State.countDelay (s : State) : State :=
  { s with dly :=
      if s.dly.toNat + 1 < 2 ^ 32 then BitVec.ofNat 32 (s.dly.toNat + 1) else Config.dlyOverflow s.ticks }

/-- The bounded wait `await(want, limit, next, o)`; the level is tested before the timeout
(41_start_response.md R125, 60_exceptions.md R206). -/
def State.await (s : State) (want : Bit) (limit : Option Nat) (next : BitVec 4) (o : BitVec 3) : State :=
  if s.pins.line = want then { s with clk := 0#32, st := next }
  else if limit = some (satInc s.clk).toNat then s.abort o
  else { s with clk := satInc s.clk }

/-- BIT_MEASURE's writes when the pulse ends, `j` being `bi div 8`: the bit of width `w` shifted into
`frame[j]` (42_bit_loop.md R142-R145). -/
def State.appendBit (s : State) (w : Nat) (j : Fin 5) : State :=
  { s with
    frame := s.frame.set j (shiftIn s.frame[j] (classifyWidth s.params.thresh w))
    bi := s.bi + 1#6
    clk := 0#32
    st := if s.bi = 39#6 then stChecksumVerify else stBitWaitHigh }

/-- STORE_PUBLISH: the pair and `valid` in one commit (43_check_publish.md R166). -/
def State.storePublish (s : State) : State :=
  { s with temp := s.frame[2], hum := s.frame[0], valid := 1#1 }

/-- A result for the agent that asked (40_line_and_clock.md R110 (d)). -/
def State.respond (s : State) (r : Response) : State := { s with resp := some r }

/-- The clock's count in every tick of the primitive view but CLK_RESET's (40_line_and_clock.md R110 (b)). -/
def State.tickClock (s : State) : State := { s with clk := satInc s.clk }

/-- The first of the `n` ticks a delay occupies; `n - 1` remain (40_line_and_clock.md R108, R110 (a)). -/
def State.occupy (s : State) (n : Nat) : State := { s with busy := n - 1 }

/-- A tick of the primitive view that executes no primitive, for want of a command or under a delay: the
clock counts and the delay nears its end (40_line_and_clock.md R110; log entry 6). -/
def State.quietTick (s : State) : State := { s.tickClock with busy := s.busy - 1 }

end Sys2Proof.Machine
end

