-- ==== Sys2Proof/Machine/BitLoop.lean ====
section
/-! DEFINITION. The arms and the primitive of 42_bit_loop.md: the pulse-timing decoder. -/

namespace Sys2Proof.Machine

/-- BIT_SYNC (R140). -/
def execBitSync (s : State) : Host.Outcome State Fault Refusal :=
  .next (s.await 0#1 s.params.bitTimeout stBitWaitHigh outcomeBitTimeout)

/-- BIT_WAIT_HIGH (R141). -/
def execBitWaitHigh (s : State) : Host.Outcome State Fault Refusal :=
  .next (s.await 1#1 s.params.bitTimeout stBitMeasure outcomeBitTimeout)

/-- BIT_MEASURE (R142). With `bi >= 40` there is no byte to append to: a fault, in states no run reaches
(log entry 8). -/
def execBitMeasure (s : State) : Host.Outcome State Fault Refusal :=
  if s.pins.line = 0#1 then
    if h : s.bi.toNat / 8 < 5 then .next (s.appendBit (satInc s.clk).toNat ⟨s.bi.toNat / 8, h⟩)
    else .fault .frameIndex
  else if s.params.bitTimeout = some (satInc s.clk).toNat then .next (s.abort outcomeBitTimeout)
  else .next { s with clk := satInc s.clk }

/-- CLASSIFY (R149). -/
def execClassify (n : BitVec 24) (s : State) : Host.Outcome State Fault Refusal :=
  .next (s.tickClock.respond (.decoded (classifyWidth s.params.thresh n.toNat)))

end Sys2Proof.Machine
end

