-- ==== Sys2Proof/Machine/Check.lean ====
section
/-! DEFINITION. The arms and primitives of 43_check_publish.md: checksum, publication, cooldown, store. -/

namespace Sys2Proof.Machine

/-- CHECKSUM_VERIFY (R160): to PUBLISH on acceptance, else the abort with the rejection's code. -/
def execChecksumVerify (s : State) : Host.Outcome State Fault Refusal :=
  if checksumResult s.frame = outcomeAccepted then .next { s with st := stPublish }
  else .next (s.abort (checksumResult s.frame))

/-- PUBLISH (R163). -/
def execPublish (s : State) : Host.Outcome State Fault Refusal :=
  .next { s.storePublish with outcome := outcomeAccepted, dly := 0#32, st := stCooldown }

/-- COOLDOWN (R165). -/
def execCooldown (s : State) : Host.Outcome State Fault Refusal :=
  if s.holdDone s.params.tCooldown then .next s.returnToIdle else .next s.countDelay

/-- CHECKSUM (R161): pure, no register but the free-running clock. -/
def execChecksum (s : State) : Host.Outcome State Fault Refusal :=
  .next (s.tickClock.respond (.verdict (checksumVerdict s.frame)))

/-- STORE_PUBLISH (R166); it does not write `outcome`. -/
def execStorePublish (s : State) : Host.Outcome State Fault Refusal :=
  .next s.tickClock.storePublish

/-- STORE_READ (R167). -/
def execStoreRead (s : State) : Host.Outcome State Fault Refusal :=
  .next (s.tickClock.respond (.stored s.temp s.hum s.valid))

end Sys2Proof.Machine
end

