-- ==== Sys2Proof/Machine/Line.lean ====
section
/-! DEFINITION. The primitives of 40_line_and_clock.md: GPIO line, Microsecond Clock and delay, each the whole
effect of its tick in the primitive view (R110): the clock counts in it unless the primitive is CLK_RESET. -/

namespace Sys2Proof.Machine

/-- GPIO_SET_DIR (R100). -/
def execGpioSetDir (b p : Bit) (s : State) : Host.Outcome State Fault Refusal :=
  .next (s.tickClock.setDirection b p)

/-- GPIO_WRITE (R101): write-while-listening faults. -/
def execGpioWrite (b : Bit) (s : State) : Host.Outcome State Fault Refusal :=
  if s.dir = 0#1 then .fault .modeMisuse else .next { s.tickClock with drv := b }

/-- GPIO_READ (R102): read-while-driving faults. -/
def execGpioRead (s : State) : Host.Outcome State Fault Refusal :=
  if s.dir = 1#1 then .fault .modeMisuse else .next (s.tickClock.respond (.level s.pins.line))

/-- CLK_RESET (R105). -/
def execClkReset (s : State) : Host.Outcome State Fault Refusal :=
  .next { s with clk := 0#32 }

/-- CLK_ELAPSED (R106): the start-of-tick value. -/
def execClkElapsed (s : State) : Host.Outcome State Fault Refusal :=
  .next (s.tickClock.respond (.elapsed s.clk))

/-- DELAY_MS (R108). -/
def execDelayMs (n : BitVec 24) (s : State) : Host.Outcome State Fault Refusal :=
  .next (s.tickClock.occupy (delayMsTicks n))

/-- DELAY_US (R109). -/
def execDelayUs (n : BitVec 24) (s : State) : Host.Outcome State Fault Refusal :=
  .next (s.tickClock.occupy (delayUsTicks n))

end Sys2Proof.Machine
end

