-- ==== Sys2Proof/Machine/Port.lean ====
section
/-! DEFINITION. The reader-port reads of 20_memory.md R55: a word for the reader, and no side effect (R63). -/

namespace Sys2Proof.Machine

/-- READING at 0x0 (R55). -/
def execReading (s : State) : Host.Outcome State Fault Refusal :=
  .next (s.respond (.word s.readingWord))

/-- STATUS at 0x4 (R55). -/
def execStatus (s : State) : Host.Outcome State Fault Refusal :=
  .next (s.respond (.word s.statusWord))

end Sys2Proof.Machine
end

