-- ==== Sys2Proof/Machine/Start.lean ====
section
/-! DEFINITION. The arms of 41_start_response.md: idle, start sequence and sensor response. -/

namespace Sys2Proof.Machine

/-- IDLE (R120). -/
def execIdle (s : State) : Host.Outcome State Fault Refusal :=
  if s.pins.go = 1#1 then .next s.startTransaction else .next s

/-- START_LOW (R121). -/
def execStartLow (s : State) : Host.Outcome State Fault Refusal :=
  if s.holdDone s.params.tStartLow then .next { s with drv := 1#1, dly := 0#32, st := stStartHigh }
  else .next s.countDelay

/-- START_HIGH (R122). -/
def execStartHigh (s : State) : Host.Outcome State Fault Refusal :=
  if s.holdDone s.params.tStartHigh then
    .next { s with dir := 0#1, clk := 0#32, dly := 0#32, st := stAwaitRespLow }
  else .next s.countDelay

/-- AWAIT_RESP_LOW (R123). -/
def execAwaitRespLow (s : State) : Host.Outcome State Fault Refusal :=
  .next (s.await 0#1 (some s.params.respTimeout) stAwaitRespHigh outcomeNoResponse)

/-- AWAIT_RESP_HIGH (R124). -/
def execAwaitRespHigh (s : State) : Host.Outcome State Fault Refusal :=
  .next (s.await 1#1 (some s.params.respTimeout) stBitSync outcomeNoResponse)

end Sys2Proof.Machine
end

