-- ==== Sys2Proof/Machine/Dispatch.lean ====
section
/-! DEFINITION. One arm per instruction, each one call of its meaning. -/

namespace Sys2Proof.Machine

def exec (i : Instr) (s : State) : Host.Outcome State Fault Refusal :=
  match i with
  | .idle => Sys2Proof.Machine.execIdle s
  | .startLow => Sys2Proof.Machine.execStartLow s
  | .startHigh => Sys2Proof.Machine.execStartHigh s
  | .awaitRespLow => Sys2Proof.Machine.execAwaitRespLow s
  | .awaitRespHigh => Sys2Proof.Machine.execAwaitRespHigh s
  | .bitSync => Sys2Proof.Machine.execBitSync s
  | .bitWaitHigh => Sys2Proof.Machine.execBitWaitHigh s
  | .bitMeasure => Sys2Proof.Machine.execBitMeasure s
  | .checksumVerify => Sys2Proof.Machine.execChecksumVerify s
  | .publish => Sys2Proof.Machine.execPublish s
  | .cooldown => Sys2Proof.Machine.execCooldown s
  | .gpioSetDir b p => Sys2Proof.Machine.execGpioSetDir b p s
  | .gpioWrite b => Sys2Proof.Machine.execGpioWrite b s
  | .gpioRead => Sys2Proof.Machine.execGpioRead s
  | .clkReset => Sys2Proof.Machine.execClkReset s
  | .clkElapsed => Sys2Proof.Machine.execClkElapsed s
  | .delayMs n => Sys2Proof.Machine.execDelayMs n s
  | .delayUs n => Sys2Proof.Machine.execDelayUs n s
  | .classify n => Sys2Proof.Machine.execClassify n s
  | .checksum => Sys2Proof.Machine.execChecksum s
  | .storePublish => Sys2Proof.Machine.execStorePublish s
  | .storeRead => Sys2Proof.Machine.execStoreRead s
  | .reading => Sys2Proof.Machine.execReading s
  | .status => Sys2Proof.Machine.execStatus s

end Sys2Proof.Machine
end

