-- ==== Sys2Proof/Machine/Fetch.lean ====
section
/-! DEFINITION. What the next step is: sampling the inputs and selecting the arm (10_state.md R20), the view
(40_line_and_clock.md R110), the reader's turn (20_memory.md R54), and the stops of 60_exceptions.md R207. -/

namespace Sys2Proof.Machine

/-- What a step does. -/
inductive Action where
  /-- Nothing: the model has no meaning for the case. -/
  | refuse (r : Refusal)
  /-- The reset arm (70_reset_and_hazards.md R240). -/
  | reset
  /-- A tick of the primitive view that executes no primitive (40_line_and_clock.md R110). -/
  | quiet
  /-- The instruction of a code. -/
  | issue (c : Code)
  deriving DecidableEq, Repr

/-- The samples of a tick for which the environment has listed none: free values (log entry 1). -/
def freePins (tick : Nat) : Pins where
  rst := Config.freeRst tick
  go := Config.freeGo tick
  line := Config.freeLine tick
  cmd := Config.freeCmd tick

/-- Part 1 of a tick, sampling the inputs (10_state.md R20). The result of the step before is gone (log entry
10), and the key of the draw stands still while reset is held (log entry 3). -/
def State.latch (s : State) (p : Pins) (rest : List Event) : State :=
  { s with
    pins := p
    resp := none
    events := rest
    ticks := s.ticks + 1
    drawKey := if s.view = .block ∧ p.rst = 1#1 then s.drawKey else s.drawKey + 1 }

/-- Takes the environment's next action: a reader's access, or the samples of the next tick. -/
def State.beginStep (s : State) : State :=
  match s.events with
  | .access _ :: rest => { s with events := rest, resp := none }
  | .tick p :: rest => s.latch p rest
  | [] => s.latch (freePins s.ticks) []

/-- What a tick does once its inputs are sampled. In the block view reset comes before every state arm
(60_exceptions.md R206). In the primitive view a command is executed unless a delay occupies the agent, and
`rst` selects nothing (40_line_and_clock.md R110 (e); log entries 5 and 6). A reserved code in `st` is looked at only
by a block tick with `rst = 0`: in the primitive view it raises nothing (R71 beside R110 (e); DEDUCED, unsafe, log
entry 19). -/
def tickAction (t : State) : Action :=
  match t.view with
  | .block => if t.pins.rst = 1#1 then .reset else .issue (.state t.st)
  | .primitive =>
    if t.busy = 0 then
      match t.pins.cmd with
      | none => .quiet
      | some w => .issue (.command w)
    else .quiet

/-- What the next step does. A configuration that is not admitted is refused (00_scope.md R8). A reader's
access takes its turn before the tick after it (20_memory.md R54; log entry 9), and raises no BadState whatever `st`
holds (R71 beside R54; DEDUCED, unsafe, log entry 19). -/
def nextAction (s : State) : Action :=
  if admitted s.params then
    match s.events with
    | .access a :: _ => .issue (.port a)
    | _ => tickAction s.beginStep
  else .refuse .badConfig

/-- How the step stops on a code that is no instruction (60_exceptions.md R207). -/
def decodeStop : DecodeError → Host.Outcome State Fault Refusal
  | .reservedState => .fault .badState
  | .illegalPrimitive => .fault .illegalPrimitive
  | .portForm => .refused .portForm
  | .portWrite => .refused .portWrite

/-- The state in which the next step issues the given code: the code in `st`, in a tick with `rst = 0`; the
command in the primitive view with no delay running; the request as the environment's next action. -/
def State.place (s : State) : Code → State
  | .state c =>
    { s with view := .block, st := c, events := .tick { s.pins with rst := 0#1 } :: s.events }
  | .command w =>
    { s with view := .primitive, busy := 0, events := .tick { s.pins with cmd := some w } :: s.events }
  | .port a => { s with events := .access a :: s.events }

end Sys2Proof.Machine
end

