-- ==== Sys2Proof/Machine/Step.lean ====
section
/-! DEFINITION. One step: the block's tick, a tick of the primitive view, or a reader's access. -/

namespace Sys2Proof.Machine

/-- Runs the instruction of a code, or stops as 60_exceptions.md R207 says. -/
def issue (c : Code) (t : State) : Host.Outcome State Fault Refusal :=
  match decode c with
  | .ok i => exec i t
  | .error e => decodeStop e

/-- One step of the machine (10_state.md R20, R38; 40_line_and_clock.md R110; 20_memory.md R54). -/
def step (s : State) : Host.Outcome State Fault Refusal :=
  match nextAction s with
  | .refuse r => .refused r
  | .reset => .next s.beginStep.resetArm
  | .quiet => .next s.beginStep.quietTick
  | .issue c => issue c s.beginStep

/-- The state whose next step runs the instruction of a table word (log entries 11 and 13). -/
def State.withFetchWord (s : State) (nbits w : Nat) : State := s.place (tableCode nbits w)

end Sys2Proof.Machine
end

