-- ==== Sys2Proof/Safety.lean ====
section
/-! DEFINITION. The terms in which statements about the machine are made: the registers as one record, the
invariants of 10_state.md R39, and shapes of input. -/

namespace Sys2Proof.Machine

/-- The architectural registers of 10_state.md R22, and nothing else of State. -/
structure Regs where
  st : BitVec 4
  dir : Bit
  drv : Bit
  clk : Word
  dly : Word
  frame : Vector Byte 5
  bi : BitVec 6
  temp : Byte
  hum : Byte
  valid : Bit
  outcome : BitVec 3
  deriving DecidableEq, Repr

/-- The registers of a state. -/
def State.regs (s : State) : Regs where
  st := s.st
  dir := s.dir
  drv := s.drv
  clk := s.clk
  dly := s.dly
  frame := s.frame
  bi := s.bi
  temp := s.temp
  hum := s.hum
  valid := s.valid
  outcome := s.outcome

/-- `f` of the next state, or the stop as it is. -/
def mapNext {α : Type} (f : State → α) : Host.Outcome State Fault Refusal → Host.Outcome α Fault Refusal
  | .next s => .next (f s)
  | .fault r => .fault r
  | .refused r => .refused r

/-- `k` steps, stopping at the first fault or refusal: the host's run of this machine (`steps_eq_run`). -/
def steps : Nat → State → Host.Outcome State Fault Refusal
  | 0, s => .next s
  | k + 1, s =>
    match step s with
    | .next t => steps k t
    | .fault r => .fault r
    | .refused r => .refused r

/-- The next step is a tick, not a reader's access. -/
def State.atTick (s : State) : Prop := ∀ a rest, s.events ≠ .access a :: rest

/-- The machine runs, or begins to run, a tick of the block view: an admitted configuration, the block view,
and no reader's access first. -/
def State.atBlockTick (s : State) : Prop := admitted s.params = true ∧ s.view = .block ∧ s.atTick

/-- The next step is a tick of the primitive view. -/
def State.atPrimitiveTick (s : State) : Prop := admitted s.params = true ∧ s.view = .primitive ∧ s.atTick

/-- The invariants (a) to (j) that 10_state.md R39 lists. -/
structure SpecInvariants (s : State) : Prop where
  /-- (a) -/
  stLegal : s.st.toNat ≤ 10
  /-- (b) -/
  dirDriven : s.dir = 1#1 ↔ s.st = stStartLow ∨ s.st = stStartHigh
  /-- (c) -/
  biBound : s.bi.toNat ≤ 40
  /-- (d) -/
  biFull : s.st = stChecksumVerify ∨ s.st = stPublish → s.bi.toNat = 40
  /-- (e) -/
  biOpen : s.st = stBitSync ∨ s.st = stBitWaitHigh ∨ s.st = stBitMeasure → s.bi.toNat < 40
  /-- (f) -/
  storeFresh : s.valid = 0#1 → s.temp = 0#8 ∧ s.hum = 0#8 ∧ s.outcome ≠ 1#3
  /-- (g), START_LOW -/
  holdLow : s.st = stStartLow → s.dly.toNat < s.params.tStartLow
  /-- (g), START_HIGH -/
  holdHigh : s.st = stStartHigh → s.dly.toNat < s.params.tStartHigh
  /-- (g), COOLDOWN -/
  holdCooldown : s.st = stCooldown → s.dly.toNat < s.params.tCooldown
  /-- (h) -/
  respClock : s.st = stAwaitRespLow ∨ s.st = stAwaitRespHigh → s.clk.toNat < s.params.respTimeout
  /-- (i) -/
  bitClock : ∀ limit, s.params.bitTimeout = some limit →
    s.st = stBitSync ∨ s.st = stBitWaitHigh ∨ s.st = stBitMeasure → s.clk.toNat < limit
  /-- (j) -/
  clockIdle : s.st = stIdle ∨ s.st = stChecksumVerify ∨ s.st = stPublish ∨ s.st = stCooldown → s.clk = 0#32

/-- The inductive invariant of the block view: R39, and that no bit has been counted before the bit loop
measures one (without which R39 (e) is not kept by a step on its own). -/
structure BlockInv (s : State) : Prop where
  blockView : s.view = .block
  spec : SpecInvariants s
  biFresh : 1 ≤ s.st.toNat ∧ s.st.toNat ≤ 5 → s.bi = 0#6

/-- An illegal command word in the words of 30_encoding.md R75, on the word as a number. -/
def illegalWord (w : Word) : Prop :=
  let op := w.toNat % 16
  let b := w.toNat / 16 % 2
  let p := w.toNat / 32 % 2
  let z := w.toNat / 64 % 4
  let n := w.toNat / 256
  op = 0 ∨ 12 ≤ op ∨ z ≠ 0 ∨
  (b ≠ 0 ∧ op ≠ 1 ∧ op ≠ 2) ∨ (p ≠ 0 ∧ op ≠ 1) ∨ (n ≠ 0 ∧ op ≠ 6 ∧ op ≠ 7 ∧ op ≠ 8) ∨
  (op = 1 ∧ b = 0 ∧ p ≠ 0)

/-- A configuration in the words of 00_scope.md R8. -/
def admittedConfig (p : Params) : Prop :=
  (1 ≤ p.tStartLow ∧ p.tStartLow < 2 ^ 32) ∧ (1 ≤ p.tStartHigh ∧ p.tStartHigh < 2 ^ 32) ∧
  (1 ≤ p.tCooldown ∧ p.tCooldown < 2 ^ 32) ∧ (1 ≤ p.respTimeout ∧ p.respTimeout < 2 ^ 32) ∧
  p.thresh < 2 ^ 32 ∧
  ∀ limit, p.bitTimeout = some limit → 1 ≤ limit ∧ limit < 2 ^ 32 ∧ p.thresh < limit

/-- `sat32` on exact numbers (00_scope.md R10). -/
def satNat (x : Nat) : Word := BitVec.ofNat 32 (min x (2 ^ 32 - 1))

/-- The modulo-256 sum of the data bytes on exact numbers (43_check_publish.md R169). -/
def sumNat (f : Vector Byte 5) : Nat := (f[0].toNat + f[1].toNat + f[2].toNat + f[3].toNat) % 256

/-- A bounded wait as its rule gives it: the arm, its code, and the four operands of `await`. -/
structure Wait where
  arm : Instr
  code : BitVec 4
  want : Bit
  limit : Option Nat
  next : BitVec 4
  out : BitVec 3

/-- The four bounded waits (41_start_response.md R123, R124; 42_bit_loop.md R140, R141). -/
def waits (p : Params) : List Wait :=
  [{ arm := .awaitRespLow, code := 3#4, want := 0#1, limit := some p.respTimeout, next := 4#4, out := 2#3 },
   { arm := .awaitRespHigh, code := 4#4, want := 1#1, limit := some p.respTimeout, next := 5#4, out := 2#3 },
   { arm := .bitSync, code := 5#4, want := 0#1, limit := p.bitTimeout, next := 6#4, out := 5#3 },
   { arm := .bitWaitHigh, code := 6#4, want := 1#1, limit := p.bitTimeout, next := 7#4, out := 5#3 }]

/-- Samples of ticks with `rst = 0` in which the line has the level `x`; `go` and the command are any. -/
def Steady (x : Bit) (ps : List Pins) : Prop := ∀ p ∈ ps, p.rst = 0#1 ∧ p.line = x

/-- `go` held at 1 and the line at the level `x` for one tick (30_encoding.md R79). -/
def sampleTick (x : Bit) : Event := .tick { rst := 0#1, go := 1#1, line := x, cmd := none }

/-- One data pulse as the bit loop meets it in BIT_WAIT_HIGH: `low` further Low samples, `high` High samples,
and the Low sample that ends the pulse (42_bit_loop.md R141, R142). -/
structure Pulse where
  low : Nat
  high : Nat

/-- The ticks of a pulse. -/
def Pulse.ticks (p : Pulse) : List Event :=
  List.replicate p.low (sampleTick 0#1) ++ (List.replicate p.high (sampleTick 1#1) ++ [sampleTick 0#1])

/-- A pulse the bit loop measures: at least one High sample, and both phases within BIT_TIMEOUT. -/
def Pulse.measurable (p : Pulse) (q : Params) : Prop :=
  1 ≤ p.high ∧ p.high < 2 ^ 32 ∧ ∀ limit, q.bitTimeout = some limit → p.low < limit ∧ p.high ≤ limit

/-- A sensor's whole answer after the line is released: `high` samples High, the response's `respLow` Low and
`respHigh` High, the first Low of data bit 0, and the data pulses (30_encoding.md R78, R79). -/
structure Answer where
  high : Nat
  respLow : Nat
  respHigh : Nat
  pulses : List Pulse

/-- The ticks of an answer. -/
def Answer.ticks (w : Answer) : List Event :=
  List.replicate w.high (sampleTick 1#1) ++ (List.replicate w.respLow (sampleTick 0#1) ++
    (List.replicate w.respHigh (sampleTick 1#1) ++ (sampleTick 0#1 :: w.pulses.flatMap Pulse.ticks)))

/-- An answer the block hears out: forty pulses, and every phase within its timeout (70_reset_and_hazards.md R250). -/
def Answer.heard (w : Answer) (q : Params) : Prop :=
  w.high < q.respTimeout ∧ (1 ≤ w.respLow ∧ w.respLow ≤ q.respTimeout) ∧ 1 ≤ w.respHigh ∧
  (∀ limit, q.bitTimeout = some limit → w.respHigh ≤ limit) ∧
  w.pulses.length = 40 ∧ ∀ p ∈ w.pulses, p.measurable q

/-- The forty pulses spell the frame: data bit `8 * j + i` stands in byte `j` at position `7 - i`
(20_memory.md R52). -/
def Spells (pulses : List Pulse) (thresh : Nat) (f : Vector Byte 5) : Prop :=
  ∀ (j : Fin 5) (i : Fin 8), ∃ p, pulses[8 * j.val + i.val]? = some p ∧
    f[j].getLsbD (7 - i.val) = decide (thresh < p.high)

/-- What can be seen of a state: `drv` only while it is driven (10_state.md R25). -/
def State.hideDrv (s : State) : State := { s with drv := if s.dir = 1#1 then s.drv else 0#1 }

/-- A command occupies the issuing agent for `n` ticks: over them nothing but the clock moves, whatever commands
later ticks offer, and the agent is free after the last (40_line_and_clock.md R108, R110). -/
def OccupiesTicks (i : Instr) (n : Nat) : Prop :=
  ∀ (s : State) (w : Word) (p : Pins) (ps : List Pins) (rest : List Event),
    admitted s.params = true → s.view = .primitive → s.busy = 0 →
    p.cmd = some w → decode (.command w) = .ok i →
    s.events = .tick p :: (ps.map .tick ++ rest) → ps.length + 1 ≤ n →
    ∃ t, steps (ps.length + 1) s = .next t ∧
      t.busy = n - (ps.length + 1) ∧ t.events = rest ∧
      t.regs = { s.regs with clk := satNat (s.clk.toNat + (ps.length + 1)) }

end Sys2Proof.Machine
end

