-- ==== Sys2Proof/Certificates/Slice0/Obligations.lean ====
section
/-! DEFINITION. The statements about the machine, each from a numbered rule of spec/ or marked as the model's. -/

open Sys2Proof Sys2Proof.Machine

/-! Encoding -/

/-- Decoding the code of a well-formed instruction gives it back, with every operand (30_encoding.md R70, R74,
R76; 20_memory.md R55). -/
def Obligations.DecodeOfEncode : Prop :=
  ∀ i : Instr, i.wellFormed = true → decode (encode i) = .ok i

/-- Every code that is an instruction is the code of that well-formed instruction: no two codes of the three
spaces spell one instruction, and no bit of a code is ignored (R70, R74, R75; R55, R56). -/
def Obligations.EncodeOfDecode : Prop :=
  ∀ (c : Code) (i : Instr), decode c = .ok i → i.wellFormed = true ∧ encode i = c

/-- Words written out in 30_encoding.md R80, 95_test_vectors.md 2.1 and the tables of R70 and R55 decode to what
they stand for. -/
def Obligations.SpecWordsDecode : Prop :=
  decode (.command 0x00000011#32) = .ok (.gpioSetDir 1#1 0#1) ∧
  decode (.command 0x00000031#32) = .ok (.gpioSetDir 1#1 1#1) ∧
  decode (.command 0x00000012#32) = .ok (.gpioWrite 1#1) ∧
  decode (.command 0x00001206#32) = .ok (.delayMs 18#24) ∧
  decode (.command 0x00001E07#32) = .ok (.delayUs 30#24) ∧
  decode (.command 0x00002908#32) = .ok (.classify 41#24) ∧
  decode (.command 0x00000009#32) = .ok .checksum ∧
  decode (.state 0x7#4) = .ok .bitMeasure ∧
  decode (.state 0xA#4) = .ok .cooldown ∧
  decode (.port (.read 0x4#32 4)) = .ok .status

/-- A command word is an instruction exactly when R75 does not call it illegal, and issuing an illegal word
raises Fault(IllegalPrimitive). That it does so with `rst = 1` too, and with a reserved
code in `st`, is the model's reading (log entries 5 and 19). -/
def Obligations.IllegalWordsFault : Prop :=
  (∀ w : Word, (∃ i, decode (.command w) = .ok i) ↔ ¬ illegalWord w) ∧
  ∀ (s : State) (w : Word), s.atPrimitiveTick → s.busy = 0 → s.beginStep.pins.cmd = some w →
    illegalWord w → step s = .fault .illegalPrimitive

/-- A block tick without reset that finds a reserved code 0xB to 0xF in `st` raises Fault(BadState), and no step of
either view writes one (R71). That only such a tick raises it, and no step of the primitive view or reader's access,
is the model's reading (log entry 19). -/
def Obligations.ReservedCodesFault : Prop :=
  (∀ s : State, step s = .fault .badState ↔
    s.atBlockTick ∧ s.beginStep.pins.rst = 0#1 ∧ 11 ≤ s.st.toNat) ∧
  ∀ s t : State, step s = .next t → t.st ≠ s.st → t.st.toNat ≤ 10

/-! The step -/

/-- A step runs the decoded instruction, on the state in which this step's inputs have been sampled and no
register written: the arm of `st` in a tick of the block view with `rst = 0` (10_state.md R20, R70), the command
in a tick of the primitive view (40_line_and_clock.md R110), the read of a reader's access (20_memory.md R54).
The model's choices in it: the samples are the head of `events` (log entry 1), the view is fixed and `rst` selects
nothing in the primitive view (log entry 5), a reader's access is a step of its own (log entry 9), the step clears
the result of the step before (log entry 10), and commands and reads run whatever code `st` holds (log entry 19). -/
def Obligations.StepRunsDecoded : Prop :=
  (∀ (s : State) (i : Instr), s.atBlockTick → s.beginStep.pins.rst = 0#1 →
    decode (.state s.st) = .ok i → step s = exec i s.beginStep) ∧
  (∀ (s : State) (w : Word) (i : Instr), s.atPrimitiveTick → s.busy = 0 → s.beginStep.pins.cmd = some w →
    decode (.command w) = .ok i → step s = exec i s.beginStep) ∧
  (∀ (s : State) (a : PortAccess) (rest : List Event) (i : Instr), admitted s.params = true →
    s.events = .access a :: rest → decode (.port a) = .ok i → step s = exec i s.beginStep) ∧
  (∀ (s : State) (p : Pins) (rest : List Event), s.events = .tick p :: rest →
    s.beginStep.pins = p ∧ s.beginStep.events = rest) ∧
  ∀ s : State, s.beginStep.regs = s.regs ∧ s.beginStep.params = s.params ∧ s.beginStep.view = s.view ∧
    s.beginStep.busy = s.busy ∧ s.beginStep.resp = none

/-- In a tick with `rst = 1` the block performs the reset arm, whatever `st` holds (70_reset_and_hazards.md R240);
`drv` is left to the draw. -/
def Obligations.ResetArmWrites : Prop :=
  ∀ s : State, s.atBlockTick → s.beginStep.pins.rst = 1#1 →
    ∃ t v, step s = .next t ∧
      t.regs = { st := 0#4, dir := 0#1, drv := v, clk := 0#32, dly := 0#32, frame := #v[0#8, 0#8, 0#8, 0#8, 0#8],
                 bi := 0#6, temp := 0#8, hum := 0#8, valid := 0#1, outcome := 0#3 }

/-- Holding `rst = 1` for any number of further ticks leaves every register as the first reset tick left it
(R240). -/
def Obligations.ResetHeldIsStable : Prop :=
  ∀ (s t : State) (p : Pins) (ps : List Pins) (rest : List Event),
    s.view = .block → s.events = .tick p :: (ps.map .tick ++ rest) → p.rst = 1#1 → (∀ q ∈ ps, q.rst = 1#1) →
    step s = .next t →
    ∃ u, steps (ps.length + 1) s = .next u ∧ u.regs = t.regs ∧ u.events = rest

/-- State.reset holds the reset values that 10_state.md R37 gives (it gives none for `drv`). -/
def Obligations.ResetStateValues : Prop :=
  State.reset.st = 0#4 ∧ State.reset.dir = 0#1 ∧ State.reset.clk = 0#32 ∧ State.reset.dly = 0#32 ∧
  (∀ j : Fin 5, State.reset.frame[j] = 0#8) ∧ State.reset.bi = 0#6 ∧ State.reset.temp = 0#8 ∧
  State.reset.hum = 0#8 ∧ State.reset.valid = 0#1 ∧ State.reset.outcome = 0#3

/-- A step is refused with BadConfig exactly under a configuration that 00_scope.md R8 does not admit. That every step
is refused, the reset arm and reads among them, is the model's reading (log entry 12). -/
def Obligations.BadConfigRefused : Prop :=
  ∀ s : State, step s = .refused .badConfig ↔ ¬ admittedConfig s.params

/-- No step writes the configuration or changes the view (00_scope.md R6, 70_reset_and_hazards.md R243). That the view
is a constant of the run is the model's reading (log entry 5). -/
def Obligations.ParamsNeverWritten : Prop :=
  ∀ s t : State, step s = .next t → t.params = s.params ∧ t.view = s.view

/-! Invariants -/

/-- Every step keeps the invariant: the invariants of 10_state.md R39, with the bit index fresh before the bit
loop (the model's own clause, log entry 16), from every state that has them. -/
def Obligations.StepKeepsInv : Prop :=
  ∀ s t : State, BlockInv s → step s = .next t → BlockInv t

/-- State.reset meets the invariant, under every configuration and whatever the environment does next. -/
def Obligations.ResetMeetsInv : Prop :=
  ∀ (p : Params) (evs : List Event), admitted p = true → BlockInv { State.reset with params := p, events := evs }

/-- R39: its ten invariants hold in every state reachable from reset under an admitted configuration. -/
def Obligations.ReachableInvariants : Prop :=
  ∀ (p : Params) (evs : List Event) (n : Nat) (t : State), admitted p = true →
    steps n { State.reset with params := p, events := evs } = .next t → SpecInvariants t

/-- From every state of the invariant, a tick of the block view completes: no fault, no refusal
(60_exceptions.md R207). -/
def Obligations.BlockTickCompletes : Prop :=
  ∀ s : State, BlockInv s → s.atBlockTick → ∃ t, step s = .next t

/-- No run of state arms from reset under an admitted configuration meets a fault or a refusal, whatever the
trigger, the reset source and the sensor do (60_exceptions.md R207). -/
def Obligations.NoFaultFromReset : Prop :=
  ∀ (p : Params) (ps : List Pins) (n : Nat), admitted p = true →
    ∃ t, steps n { State.reset with params := p, events := ps.map .tick } = .next t

/-! Start and response arms -/

/-- IDLE (41_start_response.md R120). -/
def Obligations.IdleArm : Prop :=
  decode (.state 0x0#4) = .ok .idle ∧
  ∀ s : State,
    (s.pins.go = 1#1 → exec .idle s = .next { s with
      drv := 0#1, dir := 1#1, frame := #v[0#8, 0#8, 0#8, 0#8, 0#8], bi := 0#6, dly := 0#32, clk := 0#32, st := 1#4 }) ∧
    (s.pins.go = 0#1 → exec .idle s = .next s)

/-- START_LOW (R121); where `dly + 1` does not fit, the model's free value (log entry 7). -/
def Obligations.StartLowArm : Prop :=
  decode (.state 0x1#4) = .ok .startLow ∧
  ∀ s : State,
    (s.dly.toNat + 1 = s.params.tStartLow →
      exec .startLow s = .next { s with drv := 1#1, dly := 0#32, st := 2#4 }) ∧
    (s.dly.toNat + 1 ≠ s.params.tStartLow → s.dly.toNat + 1 < 2 ^ 32 →
      exec .startLow s = .next { s with dly := s.dly + 1#32 }) ∧
    (s.dly.toNat + 1 ≠ s.params.tStartLow → s.dly.toNat + 1 = 2 ^ 32 →
      ∃ v, exec .startLow s = .next { s with dly := v })

/-- START_HIGH (R122); where `dly + 1` does not fit, the model's free value (log entry 7). -/
def Obligations.StartHighArm : Prop :=
  decode (.state 0x2#4) = .ok .startHigh ∧
  ∀ s : State,
    (s.dly.toNat + 1 = s.params.tStartHigh →
      exec .startHigh s = .next { s with dir := 0#1, clk := 0#32, dly := 0#32, st := 3#4 }) ∧
    (s.dly.toNat + 1 ≠ s.params.tStartHigh → s.dly.toNat + 1 < 2 ^ 32 →
      exec .startHigh s = .next { s with dly := s.dly + 1#32 }) ∧
    (s.dly.toNat + 1 ≠ s.params.tStartHigh → s.dly.toNat + 1 = 2 ^ 32 →
      ∃ v, exec .startHigh s = .next { s with dly := v })

/-- One tick of each bounded wait: success before timeout, the abort's exact writes, or one more sample counted
(R123, R124, R125; 42_bit_loop.md R140, R141; 60_exceptions.md R202). -/
def Obligations.AwaitArms : Prop :=
  ∀ s : State, ∀ a ∈ waits s.params,
    decode (.state a.code) = .ok a.arm ∧
    (s.pins.line = a.want → exec a.arm s = .next { s with clk := 0#32, st := a.next }) ∧
    (s.pins.line ≠ a.want → a.limit = some (satNat (s.clk.toNat + 1)).toNat →
      exec a.arm s = .next { s with outcome := a.out, dly := 0#32, clk := 0#32, st := 10#4 }) ∧
    (s.pins.line ≠ a.want → a.limit ≠ some (satNat (s.clk.toNat + 1)).toNat →
      exec a.arm s = .next { s with clk := satNat (s.clk.toNat + 1) })

/-- A wait that starts with a zero clock succeeds when a sample within its limit matches, in the tick of that
sample (R125). -/
def Obligations.AwaitSucceedsWithinLimit : Prop :=
  ∀ (s : State) (a : Wait) (x : Bit) (ps : List Pins) (q : Pins) (rest : List Event),
    s.atBlockTick → a ∈ waits s.params → s.st = a.code → s.clk = 0#32 → x ≠ a.want →
    s.events = ps.map .tick ++ .tick q :: rest → Steady x ps → q.rst = 0#1 → q.line = a.want →
    (∀ limit, a.limit = some limit → ps.length < limit) →
    ∃ t, steps (ps.length + 1) s = .next t ∧ t.events = rest ∧
      t.regs = { s.regs with clk := 0#32, st := a.next }

/-- A wait that starts with a zero clock aborts in the tick of the `limit`-th sample that does not match (R125,
R126). -/
def Obligations.AwaitAbortsAtLimit : Prop :=
  ∀ (s : State) (a : Wait) (x : Bit) (ps : List Pins) (rest : List Event),
    s.atBlockTick → a ∈ waits s.params → s.st = a.code → s.clk = 0#32 → x ≠ a.want →
    s.events = ps.map .tick ++ rest → Steady x ps → a.limit = some ps.length →
    ∃ t, steps ps.length s = .next t ∧ t.events = rest ∧
      t.regs = { s.regs with outcome := a.out, dly := 0#32, clk := 0#32, st := 10#4 }

/-- The three holds last exactly their parameter in ticks: from a zero `dly`, before tick `T` only `dly` moves,
and tick `T` leaves the state (R121, R122; 43_check_publish.md R165; 70_reset_and_hazards.md R247). -/
def Obligations.HoldsLastExactly : Prop :=
  ∀ (s : State) (ps : List Pins) (rest : List Event), s.atBlockTick → s.dly = 0#32 →
    s.events = ps.map .tick ++ rest → (∀ p ∈ ps, p.rst = 0#1) →
    ∀ row ∈ [(1#4, s.params.tStartLow, { s.regs with drv := 1#1, dly := 0#32, st := 2#4 }),
             (2#4, s.params.tStartHigh, { s.regs with dir := 0#1, clk := 0#32, dly := 0#32, st := 3#4 }),
             (10#4, s.params.tCooldown, { s.regs with dly := 0#32, st := 0#4 })],
      s.st = row.1 → ps.length ≤ row.2.1 →
      ∃ t, steps ps.length s = .next t ∧ t.events = rest ∧
        t.regs = if ps.length = row.2.1 then row.2.2 else { s.regs with dly := BitVec.ofNat 32 ps.length }

/-! Bit loop -/

/-- BIT_MEASURE (42_bit_loop.md R142, R144, R145), for the bits there are: the end of the pulse, the timeout, and
one more High sample. -/
def Obligations.BitMeasureArm : Prop :=
  decode (.state 0x7#4) = .ok .bitMeasure ∧
  ∀ s : State,
    (s.pins.line = 0#1 → s.bi.toNat < 40 →
      ∃ t, exec .bitMeasure s = .next t ∧
        (∀ j : Fin 5, t.frame[j].toNat =
          if j.val = s.bi.toNat / 8 then
            (2 * s.frame[j].toNat + if s.params.thresh < (satNat (s.clk.toNat + 1)).toNat then 1 else 0) % 256
          else s.frame[j].toNat) ∧
        t.bi.toNat = s.bi.toNat + 1 ∧
        t = { s with frame := t.frame, bi := t.bi, clk := 0#32, st := if s.bi.toNat = 39 then 8#4 else 6#4 }) ∧
    (s.pins.line = 1#1 → s.params.bitTimeout = some (satNat (s.clk.toNat + 1)).toNat →
      exec .bitMeasure s = .next { s with outcome := 5#3, dly := 0#32, clk := 0#32, st := 10#4 }) ∧
    (s.pins.line = 1#1 → s.params.bitTimeout ≠ some (satNat (s.clk.toNat + 1)).toNat →
      exec .bitMeasure s = .next { s with clk := satNat (s.clk.toNat + 1) })

/-- The model's choice (log entry 8): a pulse that ends with `bi >= 40`, in a state no run reaches, finds no byte
to append to, and faults. -/
def Obligations.BitMeasureBeyondFrame : Prop :=
  ∀ s : State, s.pins.line = 0#1 → 40 ≤ s.bi.toNat → exec .bitMeasure s = .fault .frameIndex

/-- A data pulse of `w` High samples is measured as `w` and appended as one bit: 1 iff `w > THRESH`
(42_bit_loop.md R141 to R145). -/
def Obligations.PulseDecodesToBit : Prop :=
  ∀ (s : State) (p : Pulse) (rest : List Event), s.atBlockTick → s.st = 6#4 → s.clk = 0#32 → s.bi.toNat < 40 →
    p.measurable s.params → s.events = p.ticks ++ rest →
    ∃ t, steps (p.low + p.high + 1) s = .next t ∧ t.events = rest ∧
      (∀ j : Fin 5, t.frame[j].toNat =
        if j.val = s.bi.toNat / 8 then
          (2 * s.frame[j].toNat + if s.params.thresh < p.high then 1 else 0) % 256
        else s.frame[j].toNat) ∧
      t.bi.toNat = s.bi.toNat + 1 ∧
      t.regs = { s.regs with frame := t.frame, bi := t.bi, st := if s.bi.toNat = 39 then 8#4 else 6#4 }

/-- Forty pulses fill the frame, most significant bit first: data bit `8 * j + i` lands in `frame[j]` at bit
position `7 - i`, whatever the frame held, and the block goes to CHECKSUM_VERIFY with the store untouched
(20_memory.md R52; 42_bit_loop.md R145, R146). -/
def Obligations.FortyPulsesFillFrame : Prop :=
  ∀ (s : State) (pulses : List Pulse) (rest : List Event), s.atBlockTick → s.st = 6#4 → s.clk = 0#32 → s.bi = 0#6 →
    pulses.length = 40 → (∀ p ∈ pulses, p.measurable s.params) →
    s.events = pulses.flatMap Pulse.ticks ++ rest →
    ∃ t, steps (pulses.flatMap Pulse.ticks).length s = .next t ∧ t.events = rest ∧
      Spells pulses s.params.thresh t.frame ∧
      t.regs = { s.regs with frame := t.frame, bi := 40#6, st := 8#4 }

/-- With `BIT_TIMEOUT = none` a line held at the level a bit-loop state does not wait for keeps the block in that
state for ever, and nothing but the clock moves (60_exceptions.md R205, 42_bit_loop.md R147). -/
def Obligations.UnboundedWaitHangs : Prop :=
  ∀ (s : State) (x : Bit) (ps : List Pins) (rest : List Event), s.atBlockTick → s.params.bitTimeout = none →
    (s.st = 5#4 ∧ x = 1#1 ∨ s.st = 6#4 ∧ x = 0#1 ∨ s.st = 7#4 ∧ x = 1#1) →
    s.events = ps.map .tick ++ rest → Steady x ps →
    ∃ t, steps ps.length s = .next t ∧ t.events = rest ∧
      t.regs = { s.regs with clk := satNat (s.clk.toNat + ps.length) }

/-- CLASSIFY (42_bit_loop.md R149); the clock of the primitive view counts on (40_line_and_clock.md R110), and the bit
stands in `resp`, the model's choice (log entry 10). -/
def Obligations.ClassifyPrimitive : Prop :=
  ∀ (s : State) (n : BitVec 24), decode (.command (BitVec.ofNat 32 (0x8 + 2 ^ 8 * n.toNat))) = .ok (.classify n) ∧
    exec (.classify n) s = .next { s with
    clk := satNat (s.clk.toNat + 1), resp := some (.decoded (if n.toNat > s.params.thresh then 1#1 else 0#1)) }

/-! Checksum, publication, cooldown and store -/

/-- CHECKSUM_VERIFY: to PUBLISH iff the modulo-256 sum equals byte 4 and is nonzero, else the abort with
CHECKSUM_MISMATCH before ALL_ZERO_FRAME (43_check_publish.md R160, R162). -/
def Obligations.ChecksumVerifyArm : Prop :=
  decode (.state 0x8#4) = .ok .checksumVerify ∧
  ∀ s : State,
    (sumNat s.frame = s.frame[4].toNat → sumNat s.frame ≠ 0 →
      exec .checksumVerify s = .next { s with st := 9#4 }) ∧
    (sumNat s.frame ≠ s.frame[4].toNat →
      exec .checksumVerify s = .next { s with outcome := 3#3, dly := 0#32, clk := 0#32, st := 10#4 }) ∧
    (sumNat s.frame = s.frame[4].toNat → sumNat s.frame = 0 →
      exec .checksumVerify s = .next { s with outcome := 4#3, dly := 0#32, clk := 0#32, st := 10#4 })

/-- PUBLISH (43_check_publish.md R163). -/
def Obligations.PublishArm : Prop :=
  decode (.state 0x9#4) = .ok .publish ∧
  ∀ s : State, exec .publish s = .next { s with
    hum := s.frame[0], temp := s.frame[2], valid := 1#1, outcome := 1#3, dly := 0#32, st := 10#4 }

/-- COOLDOWN (43_check_publish.md R165); where `dly + 1` does not fit, the model's free value (log entry 7). -/
def Obligations.CooldownArm : Prop :=
  decode (.state 0xA#4) = .ok .cooldown ∧
  ∀ s : State,
    (s.dly.toNat + 1 = s.params.tCooldown → exec .cooldown s = .next { s with dly := 0#32, st := 0#4 }) ∧
    (s.dly.toNat + 1 ≠ s.params.tCooldown → s.dly.toNat + 1 < 2 ^ 32 →
      exec .cooldown s = .next { s with dly := s.dly + 1#32 }) ∧
    (s.dly.toNat + 1 ≠ s.params.tCooldown → s.dly.toNat + 1 = 2 ^ 32 →
      ∃ v, exec .cooldown s = .next { s with dly := v })

/-- CHECKSUM (43_check_publish.md R161). That its tick counts the clock, by R110 (b), although R161 says the primitive
view writes no register, is the model's reading of the two (log entry 17); the verdict stands in `resp` (log entry
10). -/
def Obligations.ChecksumPrimitive : Prop :=
  decode (.command 0x9#32) = .ok .checksum ∧
  ∀ s : State, exec .checksum s = .next { s with
    clk := satNat (s.clk.toNat + 1),
    resp := some (.verdict
      (if sumNat s.frame = s.frame[4].toNat ∧ sumNat s.frame ≠ 0 then .accepted else .rejected)) }

/-- STORE_PUBLISH and STORE_READ (43_check_publish.md R166, R167); the clock of the primitive view counts on
(R110), and the pair read stands in `resp` (log entry 10). -/
def Obligations.StorePrimitives : Prop :=
  decode (.command 0xA#32) = .ok .storePublish ∧ decode (.command 0xB#32) = .ok .storeRead ∧
  ∀ s : State,
    exec .storePublish s = .next { s with
      clk := satNat (s.clk.toNat + 1), temp := s.frame[2], hum := s.frame[0], valid := 1#1 } ∧
    exec .storeRead s = .next { s with
      clk := satNat (s.clk.toNat + 1), resp := some (.stored s.temp s.hum s.valid) }

/-- A whole transaction, from IDLE with `go = 1` under any answer the block hears out: after the start sequence,
the answer and the CHECKSUM_VERIFY tick, the frame is what the pulses spell, the line is released and the store is
as before; an accepted frame is published by the next tick, a rejected one has recorded its outcome
(41_start_response.md R120 to R125; 42_bit_loop.md R140 to R146; 43_check_publish.md R160 to R163;
70_reset_and_hazards.md R250). -/
def Obligations.TransactionPublishesItsFrame : Prop :=
  ∀ (s : State) (p q : Pins) (hold : List Pins) (w : Answer) (rest : List Event), s.atBlockTick → s.st = 0#4 →
    s.events = .tick p :: (hold.map .tick ++ (w.ticks ++ .tick q :: rest)) →
    p.rst = 0#1 → p.go = 1#1 → (∀ x ∈ hold, x.rst = 0#1) →
    hold.length = s.params.tStartLow + s.params.tStartHigh → w.heard s.params → q.rst = 0#1 →
    ∃ t, steps (1 + hold.length + w.ticks.length + 1) s = .next t ∧ t.events = rest ∧
      Spells w.pulses s.params.thresh t.frame ∧
      t.regs = { st := if sumNat t.frame = t.frame[4].toNat ∧ sumNat t.frame ≠ 0 then 9#4 else 10#4,
                 dir := 0#1, drv := 1#1, clk := 0#32, dly := 0#32, frame := t.frame, bi := 40#6,
                 temp := s.temp, hum := s.hum, valid := s.valid,
                 outcome := if sumNat t.frame ≠ t.frame[4].toNat then 3#3
                            else if sumNat t.frame = 0 then 4#3 else s.outcome } ∧
      ∀ (r : Pins) (later : List Event), rest = .tick r :: later → r.rst = 0#1 →
        sumNat t.frame = t.frame[4].toNat → sumNat t.frame ≠ 0 →
        ∃ u, step t = .next u ∧
          u.regs = { t.regs with temp := t.frame[2], hum := t.frame[0], valid := 1#1, outcome := 1#3, st := 10#4 }

/-! Line, clock and delay primitives -/

/-- GPIO_SET_DIR: level and enable commit together, or the line is released with `drv` kept
(40_line_and_clock.md R100); the clock of the primitive view counts on (R110). -/
def Obligations.GpioSetDirPrimitive : Prop :=
  ∀ (s : State) (p : Bit),
    decode (.command (BitVec.ofNat 32 (0x1 + 2 ^ 4 + 2 ^ 5 * p.toNat))) = .ok (.gpioSetDir 1#1 p) ∧
    decode (.command 0x1#32) = .ok (.gpioSetDir 0#1 0#1) ∧
    exec (.gpioSetDir 1#1 p) s = .next { s with clk := satNat (s.clk.toNat + 1), drv := p, dir := 1#1 } ∧
    exec (.gpioSetDir 0#1 p) s = .next { s with clk := satNat (s.clk.toNat + 1), dir := 0#1 }

/-- GPIO_WRITE: the level in Output mode, Fault(ModeMisuse) in Input mode (R101); the clock of the primitive view
counts on (R110). -/
def Obligations.GpioWritePrimitive : Prop :=
  ∀ (s : State) (b : Bit),
    decode (.command (BitVec.ofNat 32 (0x2 + 2 ^ 4 * b.toNat))) = .ok (.gpioWrite b) ∧
    (s.dir = 1#1 → exec (.gpioWrite b) s = .next { s with clk := satNat (s.clk.toNat + 1), drv := b }) ∧
    (s.dir = 0#1 → exec (.gpioWrite b) s = .fault .modeMisuse)

/-- GPIO_READ: the sample in Input mode, Fault(ModeMisuse) in Output mode (R102); the clock of the primitive view
counts on (R110), and the sample stands in `resp`, the model's choice (log entry 10). -/
def Obligations.GpioReadPrimitive : Prop :=
  decode (.command 0x3#32) = .ok .gpioRead ∧
  ∀ s : State,
    (s.dir = 0#1 → exec .gpioRead s = .next { s with
      clk := satNat (s.clk.toNat + 1), resp := some (.level s.pins.line) }) ∧
    (s.dir = 1#1 → exec .gpioRead s = .fault .modeMisuse)

/-- CLK_RESET zeroes the clock, and CLK_ELAPSED returns its start-of-tick value while it counts on (R105, R106,
R110), in `resp` (log entry 10). -/
def Obligations.ClockPrimitives : Prop :=
  decode (.command 0x4#32) = .ok .clkReset ∧ decode (.command 0x5#32) = .ok .clkElapsed ∧
  ∀ s : State,
    exec .clkReset s = .next { s with clk := 0#32 } ∧
    exec .clkElapsed s = .next { s with clk := satNat (s.clk.toNat + 1), resp := some (.elapsed s.clk) }

/-- The first tick of DELAY_MS and DELAY_US (R108, R109); that it is one of the delay's ticks is the model's reading
(log entry 6). -/
def Obligations.DelayPrimitives : Prop :=
  ∀ (s : State) (n : BitVec 24),
    decode (.command (BitVec.ofNat 32 (0x6 + 2 ^ 8 * n.toNat))) = .ok (.delayMs n) ∧
    decode (.command (BitVec.ofNat 32 (0x7 + 2 ^ 8 * n.toNat))) = .ok (.delayUs n) ∧
    exec (.delayMs n) s = .next { s with
      clk := satNat (s.clk.toNat + 1), busy := max 1 (1000 * n.toNat) - 1 } ∧
    exec (.delayUs n) s = .next { s with
      clk := satNat (s.clk.toNat + 1), busy := max 1 n.toNat - 1 }

/-- DELAY_MS occupies the agent for `max(1, 1000 * n)` ticks and DELAY_US for `max(1, n)`: until then no other
command executes, and nothing but the clock moves (R108, R109, R110). That the tick of issue is one of them and that a
command offered meanwhile is dropped is the model's reading (log entry 6), and so is that `rst` selects nothing in
the primitive view (log entry 5) and a reserved code in `st` raises nothing there (log entry 19). -/
def Obligations.DelaysOccupyTicks : Prop :=
  ∀ n : BitVec 24, OccupiesTicks (.delayMs n) (max 1 (1000 * n.toNat)) ∧ OccupiesTicks (.delayUs n) (max 1 n.toNat)

/-! Reader port -/

/-- READING is `hum + 2^8 * temp + 2^16 * valid` and STATUS is `st + 2^4 * outcome`, every other bit 0, and the
read changes no register (20_memory.md R55, R63). That the read is a step of its own, in which no tick elapses, is the
model's reading (log entry 9), and that the word stands in `resp` its choice (log entry 10). -/
def Obligations.PortWords : Prop :=
  decode (.port (.read 0x0#32 4)) = .ok .reading ∧ decode (.port (.read 0x4#32 4)) = .ok .status ∧
  ∀ s : State,
    exec .reading s = .next { s with resp := some (.word
      (BitVec.ofNat 32 (s.hum.toNat + 2 ^ 8 * s.temp.toNat + 2 ^ 16 * s.valid.toNat))) } ∧
    exec .status s = .next { s with resp := some (.word
      (BitVec.ofNat 32 (s.st.toNat + 2 ^ 4 * s.outcome.toNat))) }

/-- The port answers aligned 32-bit reads at 0x0 and 0x4, refuses every other read, and its byte lanes are
little-endian (20_memory.md R56). That it does so with a reserved code in `st` too is the model's reading (log entry
19). -/
def Obligations.PortAdmitsTwoReads : Prop :=
  (∀ (s : State) (offset : Word) (width : Nat) (rest : List Event), admitted s.params = true →
    s.events = .access (.read offset width) :: rest →
    if width = 4 ∧ (offset = 0x0#32 ∨ offset = 0x4#32) then ∃ t, step s = .next t
    else step s = .refused .portForm) ∧
  ∀ s : State, s.portLane 0 = some s.hum ∧ s.portLane 1 = some s.temp ∧ s.portLane 2 = some (s.valid.setWidth 8) ∧
    s.portLane 3 = some 0#8

/-- A write request at the reader port is refused (20_memory.md R57). That it is so with a reserved code in `st` too is
the model's reading (log entry 19). -/
def Obligations.PortWritesRefused : Prop :=
  ∀ (s : State) (offset : Word) (width : Nat) (data : Word) (rest : List Event), admitted s.params = true →
    s.events = .access (.write offset width data) :: rest → step s = .refused .portWrite

/-- Any number of reads of one word before a tick all return the start-of-tick word and leave every register as
it was (20_memory.md R54, R63). That each is a step of its own before the tick, and leaves its word in `resp`, is the
model's choice (log entries 9 and 10), and so is that a reserved code in `st` does not stop a read (log entry 19). -/
def Obligations.ReadsAreIdempotent : Prop :=
  ∀ (s : State) (k : Nat) (rest : List Event), admitted s.params = true →
    (s.events = List.replicate (k + 1) (.access (.read 0x0#32 4)) ++ rest →
      ∃ t, steps (k + 1) s = .next t ∧ t.regs = s.regs ∧ t.events = rest ∧ t.resp = some (.word s.readingWord)) ∧
    (s.events = List.replicate (k + 1) (.access (.read 0x4#32 4)) ++ rest →
      ∃ t, steps (k + 1) s = .next t ∧ t.regs = s.regs ∧ t.events = rest ∧ t.resp = some (.word s.statusWord))

/-! Rules of the whole machine -/

/-- Only reset and PUBLISH write the store: any other tick of the block view, every abort among them, and every
read leaves `temp`, `hum` and `valid` as they were (20_memory.md R60). -/
def Obligations.StoreWrittenOnlyByPublish : Prop :=
  ∀ s t : State, s.view = .block → step s = .next t →
    (s.atTick → s.beginStep.pins.rst = 0#1 ∧ s.st ≠ 9#4) →
    t.temp = s.temp ∧ t.hum = s.hum ∧ t.valid = s.valid

/-- A publication is atomic: a tick of PUBLISH without reset puts `temp`, `hum`, `valid` and `outcome` at their new
values together, and every other step without reset leaves the store as it was (20_memory.md R58). -/
def Obligations.PublicationIsAtomic : Prop :=
  ∀ s t : State, s.view = .block → step s = .next t → (s.atTick → s.beginStep.pins.rst = 0#1) →
    (s.atTick → s.st = 9#4 → t.temp = s.frame[2] ∧ t.hum = s.frame[0] ∧ t.valid = 1#1 ∧ t.outcome = 1#3) ∧
    ((s.atTick → s.st ≠ 9#4) → t.temp = s.temp ∧ t.hum = s.hum ∧ t.valid = s.valid)

/-- `valid` is never cleared except by reset, in either view (10_state.md R31). That the reset which clears it is a
tick of the block view, and `rst` clears nothing in the primitive view, is the model's reading (log entry 5). -/
def Obligations.ValidClearedOnlyByReset : Prop :=
  ∀ s t : State, step s = .next t → s.valid = 1#1 → t.valid = 0#1 →
    s.atBlockTick ∧ s.beginStep.pins.rst = 1#1

/-- `outcome` changes only at the end of a transaction: to 1 by PUBLISH, or to 2, 3, 4 or 5 by an abort of the
states that 60_exceptions.md R201 names, and always on the way to COOLDOWN (10_state.md R32). That `rst` changes nothing
in the primitive view is the model's reading (log entry 5). -/
def Obligations.OutcomeWriters : Prop :=
  ∀ s t : State, step s = .next t → (s.atBlockTick → s.beginStep.pins.rst = 0#1) → t.outcome ≠ s.outcome →
    t.st = 10#4 ∧
    (s.st = 9#4 ∧ t.outcome = 1#3 ∨
     (s.st = 3#4 ∨ s.st = 4#4) ∧ t.outcome = 2#3 ∨
     s.st = 8#4 ∧ (t.outcome = 3#3 ∨ t.outcome = 4#3) ∨
     (s.st = 5#4 ∨ s.st = 6#4 ∨ s.st = 7#4) ∧ t.outcome = 5#3)

/-- No instruction but STATUS, which returns it, depends on `outcome`: with another value there, it stops the same
way or writes the same everywhere else (10_state.md R32). -/
def Obligations.OutcomeNeverRead : Prop :=
  ∀ (i : Instr) (s : State) (v : BitVec 3), i ≠ .status →
    mapNext (fun t => { t with outcome := 0#3 }) (exec i { s with outcome := v }) =
    mapNext (fun t => { t with outcome := 0#3 }) (exec i s)

/-- Outside the five states that read the line, the sample `L` does not influence the block's tick (10_state.md
R34). -/
def Obligations.LineIgnoredElsewhere : Prop :=
  ∀ (s : State) (p : Pins) (x : Bit) (rest : List Event), s.view = .block →
    (s.st.toNat < 3 ∨ 7 < s.st.toNat) →
    mapNext State.regs (step { s with events := .tick { p with line := x } :: rest }) =
    mapNext State.regs (step { s with events := .tick p :: rest })

/-- Outside IDLE, `go` does not influence the block's tick (41_start_response.md R120, 70_reset_and_hazards.md
R247). -/
def Obligations.GoIgnoredOutsideIdle : Prop :=
  ∀ (s : State) (p : Pins) (x : Bit) (rest : List Event), s.view = .block → s.st ≠ 0#4 →
    mapNext State.regs (step { s with events := .tick { p with go := x } :: rest }) =
    mapNext State.regs (step { s with events := .tick p :: rest })

/-- In the block view the line becomes driven only from IDLE to START_LOW, and then Low, and is released only from
START_HIGH to AWAIT_RESP_LOW or by reset (10_state.md R24, R25). -/
def Obligations.DirectionChanges : Prop :=
  ∀ s t : State, s.view = .block → step s = .next t →
    (s.dir = 0#1 → t.dir = 1#1 → s.st = 0#4 ∧ t.st = 1#4 ∧ t.drv = 0#1) ∧
    (s.dir = 1#1 → t.dir = 0#1 → (s.st = 2#4 ∧ t.st = 3#4) ∨ (s.atTick ∧ s.beginStep.pins.rst = 1#1))

/-- The drive level of a line that is not driven is never observed: whatever it is, the step stops the same way or
leads to states that agree in everything but, while the line stays released, that level (10_state.md R25). -/
def Obligations.ReleasedLevelUnobservable : Prop :=
  ∀ (s : State) (x : Bit), s.dir = 0#1 →
    mapNext State.hideDrv (step { s with drv := x }) = mapNext State.hideDrv (step s)

/-- In every step, of either view, the clock stays, is zeroed, or counts one more without wrapping (10_state.md
R26, 40_line_and_clock.md R107). -/
def Obligations.ClockNeverWraps : Prop :=
  ∀ s t : State, step s = .next t →
    t.clk = s.clk ∨ t.clk = 0#32 ∨ t.clk.toNat = min (s.clk.toNat + 1) (2 ^ 32 - 1)

/-- In the primitive view `st`, `bi`, `frame`, `outcome` and `dly` do not change, whatever the command and whatever
`rst` (40_line_and_clock.md R110 (e)). That `rst` selects nothing in this view is the model's reading (log entry 5). -/
def Obligations.PrimitiveViewFrame : Prop :=
  ∀ s t : State, s.view = .primitive → step s = .next t →
    t.st = s.st ∧ t.bi = s.bi ∧ t.frame = s.frame ∧ t.outcome = s.outcome ∧ t.dly = s.dly
end

