-- ==== Sys2Proof/Laws/Decode.lean ====
section
/-! SUPPORT. The fields of a command word built from its fields, and a word rebuilt from its fields
(30_encoding.md R74). -/

namespace Sys2Proof

variable (op : BitVec 4) (b p : Bit) (n : BitVec 24) (w : Word)

@[simp] theorem opField_commandWord : opField (commandWord op b p n) = op := by
  apply BitVec.eq_of_getLsbD_eq
  intro i hi
  simp only [opField, commandWord, BitVec.getLsbD_extractLsb', BitVec.getLsbD_append]
  interval_cases i <;> simp

@[simp] theorem bField_commandWord : bField (commandWord op b p n) = b := by
  apply BitVec.eq_of_getLsbD_eq
  intro i hi
  simp only [bField, commandWord, BitVec.getLsbD_extractLsb', BitVec.getLsbD_append]
  interval_cases i; simp

@[simp] theorem pField_commandWord : pField (commandWord op b p n) = p := by
  apply BitVec.eq_of_getLsbD_eq
  intro i hi
  simp only [pField, commandWord, BitVec.getLsbD_extractLsb', BitVec.getLsbD_append]
  interval_cases i; simp

@[simp] theorem zField_commandWord : zField (commandWord op b p n) = 0#2 := by
  apply BitVec.eq_of_getLsbD_eq
  intro i hi
  simp only [zField, commandWord, BitVec.getLsbD_extractLsb', BitVec.getLsbD_append]
  interval_cases i <;> simp

@[simp] theorem nField_commandWord : nField (commandWord op b p n) = n := by
  apply BitVec.eq_of_getLsbD_eq
  intro i hi
  simp only [nField, commandWord, BitVec.getLsbD_extractLsb', BitVec.getLsbD_append]
  interval_cases i <;> simp

/-- A word whose reserved bits are 0 is the word of its four other fields. -/
theorem commandWord_fields (h : zField w = 0#2) :
    commandWord (opField w) (bField w) (pField w) (nField w) = w := by
  have h6 : w[6] = false := by simpa [zField] using congrArg (BitVec.getLsbD · 0) h
  have h7 : w[7] = false := by simpa [zField] using congrArg (BitVec.getLsbD · 1) h
  apply BitVec.eq_of_getLsbD_eq
  intro i hi
  simp only [commandWord, BitVec.getLsbD_append, nField, pField, bField, opField, BitVec.getLsbD_extractLsb']
  interval_cases i <;> simp [h6, h7]

/-- Appending a field below another, on exact numbers. -/
theorem append_toNat {v w : Nat} (x : BitVec v) (y : BitVec w) :
    (x ++ y).toNat = x.toNat * 2 ^ w + y.toNat := by
  rw [BitVec.toNat_append, ← Nat.shiftLeft_add_eq_or_of_lt y.isLt, Nat.shiftLeft_eq]

/-- A command word as a number: its fields as digits (R74). -/
theorem commandWord_eq :
    commandWord op b p n = BitVec.ofNat 32 (op.toNat + 2 ^ 4 * b.toNat + 2 ^ 5 * p.toNat + 2 ^ 8 * n.toNat) := by
  have := op.isLt; have := b.isLt; have := p.isLt; have := n.isLt
  apply BitVec.eq_of_toNat_eq
  simp only [commandWord, append_toNat, BitVec.toNat_ofNat]
  omega

/-- The fields of a word as digits of its number. -/
theorem opField_toNat : (opField w).toNat = w.toNat % 16 := by
  simp [opField, BitVec.extractLsb'_toNat]

theorem bField_toNat : (bField w).toNat = w.toNat / 16 % 2 := by
  simp [bField, BitVec.extractLsb'_toNat, Nat.shiftRight_eq_div_pow]

theorem pField_toNat : (pField w).toNat = w.toNat / 32 % 2 := by
  simp [pField, BitVec.extractLsb'_toNat, Nat.shiftRight_eq_div_pow]

theorem zField_toNat : (zField w).toNat = w.toNat / 64 % 4 := by
  simp [zField, BitVec.extractLsb'_toNat, Nat.shiftRight_eq_div_pow]

theorem nField_toNat : (nField w).toNat = w.toNat / 256 := by
  have := w.isLt
  simp [nField, BitVec.extractLsb'_toNat, Nat.shiftRight_eq_div_pow]
  omega

/-- Everything a state code decodes to. -/
theorem decodeState_cases {c : BitVec 4} {i : Instr} (h : decodeState c = .ok i) :
    (c = 0#4 ∧ i = .idle) ∨ (c = 1#4 ∧ i = .startLow) ∨ (c = 2#4 ∧ i = .startHigh) ∨
    (c = 3#4 ∧ i = .awaitRespLow) ∨ (c = 4#4 ∧ i = .awaitRespHigh) ∨ (c = 5#4 ∧ i = .bitSync) ∨
    (c = 6#4 ∧ i = .bitWaitHigh) ∨ (c = 7#4 ∧ i = .bitMeasure) ∨ (c = 8#4 ∧ i = .checksumVerify) ∨
    (c = 9#4 ∧ i = .publish) ∨ (c = 10#4 ∧ i = .cooldown) := by
  have hc : c = BitVec.ofNat 4 c.toNat := by simp
  unfold decodeState at h
  split at h <;> rename_i e <;> cases h <;> rw [hc, e] <;> simp

/-- Everything a command word decodes to. -/
theorem decodeCommand_cases {w : Word} {i : Instr} (h : decodeCommand w = .ok i) :
    (∃ b p, i = .gpioSetDir b p) ∨ (∃ b, i = .gpioWrite b) ∨ i = .gpioRead ∨ i = .clkReset ∨ i = .clkElapsed ∨
    (∃ n, i = .delayMs n) ∨ (∃ n, i = .delayUs n) ∨ (∃ n, i = .classify n) ∨ i = .checksum ∨
    i = .storePublish ∨ i = .storeRead := by
  unfold decodeCommand at h
  repeat' split at h
  all_goals cases h
  all_goals simp

/-- Everything a reader's access decodes to. -/
theorem decodePort_cases {a : PortAccess} {i : Instr} (h : decodePort a = .ok i) :
    (a = .read 0#32 4 ∧ i = .reading) ∨ (a = .read 4#32 4 ∧ i = .status) := by
  unfold decodePort at h
  repeat' split at h
  all_goals cases h
  · left; simp_all
  · right; simp_all

end Sys2Proof
end

