-- ==== Sys2Proof/Laws/State.lean ====
section
/-! SUPPORT. One lemma per field of every named update of State, true by unfolding, so that no proof unfolds a
record update. -/

namespace Sys2Proof.Machine

/-! `State.abort` -/

@[simp] theorem State.abort_st (s : State) (o : BitVec 3) : (s.abort o).st = stCooldown := rfl
@[simp] theorem State.abort_dir (s : State) (o : BitVec 3) : (s.abort o).dir = s.dir := rfl
@[simp] theorem State.abort_drv (s : State) (o : BitVec 3) : (s.abort o).drv = s.drv := rfl
@[simp] theorem State.abort_clk (s : State) (o : BitVec 3) : (s.abort o).clk = 0#32 := rfl
@[simp] theorem State.abort_dly (s : State) (o : BitVec 3) : (s.abort o).dly = 0#32 := rfl
@[simp] theorem State.abort_frame (s : State) (o : BitVec 3) : (s.abort o).frame = s.frame := rfl
@[simp] theorem State.abort_bi (s : State) (o : BitVec 3) : (s.abort o).bi = s.bi := rfl
@[simp] theorem State.abort_temp (s : State) (o : BitVec 3) : (s.abort o).temp = s.temp := rfl
@[simp] theorem State.abort_hum (s : State) (o : BitVec 3) : (s.abort o).hum = s.hum := rfl
@[simp] theorem State.abort_valid (s : State) (o : BitVec 3) : (s.abort o).valid = s.valid := rfl
@[simp] theorem State.abort_outcome (s : State) (o : BitVec 3) : (s.abort o).outcome = o := rfl
@[simp] theorem State.abort_params (s : State) (o : BitVec 3) : (s.abort o).params = s.params := rfl
@[simp] theorem State.abort_pins (s : State) (o : BitVec 3) : (s.abort o).pins = s.pins := rfl
@[simp] theorem State.abort_view (s : State) (o : BitVec 3) : (s.abort o).view = s.view := rfl
@[simp] theorem State.abort_busy (s : State) (o : BitVec 3) : (s.abort o).busy = s.busy := rfl
@[simp] theorem State.abort_resp (s : State) (o : BitVec 3) : (s.abort o).resp = s.resp := rfl
@[simp] theorem State.abort_events (s : State) (o : BitVec 3) : (s.abort o).events = s.events := rfl
@[simp] theorem State.abort_ticks (s : State) (o : BitVec 3) : (s.abort o).ticks = s.ticks := rfl
@[simp] theorem State.abort_drawKey (s : State) (o : BitVec 3) : (s.abort o).drawKey = s.drawKey := rfl

/-! `State.returnToIdle` -/

@[simp] theorem State.returnToIdle_st (s : State) : (s.returnToIdle).st = stIdle := rfl
@[simp] theorem State.returnToIdle_dir (s : State) : (s.returnToIdle).dir = s.dir := rfl
@[simp] theorem State.returnToIdle_drv (s : State) : (s.returnToIdle).drv = s.drv := rfl
@[simp] theorem State.returnToIdle_clk (s : State) : (s.returnToIdle).clk = s.clk := rfl
@[simp] theorem State.returnToIdle_dly (s : State) : (s.returnToIdle).dly = 0#32 := rfl
@[simp] theorem State.returnToIdle_frame (s : State) : (s.returnToIdle).frame = s.frame := rfl
@[simp] theorem State.returnToIdle_bi (s : State) : (s.returnToIdle).bi = s.bi := rfl
@[simp] theorem State.returnToIdle_temp (s : State) : (s.returnToIdle).temp = s.temp := rfl
@[simp] theorem State.returnToIdle_hum (s : State) : (s.returnToIdle).hum = s.hum := rfl
@[simp] theorem State.returnToIdle_valid (s : State) : (s.returnToIdle).valid = s.valid := rfl
@[simp] theorem State.returnToIdle_outcome (s : State) : (s.returnToIdle).outcome = s.outcome := rfl
@[simp] theorem State.returnToIdle_params (s : State) : (s.returnToIdle).params = s.params := rfl
@[simp] theorem State.returnToIdle_pins (s : State) : (s.returnToIdle).pins = s.pins := rfl
@[simp] theorem State.returnToIdle_view (s : State) : (s.returnToIdle).view = s.view := rfl
@[simp] theorem State.returnToIdle_busy (s : State) : (s.returnToIdle).busy = s.busy := rfl
@[simp] theorem State.returnToIdle_resp (s : State) : (s.returnToIdle).resp = s.resp := rfl
@[simp] theorem State.returnToIdle_events (s : State) : (s.returnToIdle).events = s.events := rfl
@[simp] theorem State.returnToIdle_ticks (s : State) : (s.returnToIdle).ticks = s.ticks := rfl
@[simp] theorem State.returnToIdle_drawKey (s : State) : (s.returnToIdle).drawKey = s.drawKey := rfl

/-! `State.resetArm` -/

@[simp] theorem State.resetArm_st (s : State) : (s.resetArm).st = stIdle := rfl
@[simp] theorem State.resetArm_dir (s : State) : (s.resetArm).dir = 0#1 := rfl
@[simp] theorem State.resetArm_drv (s : State) : (s.resetArm).drv = Config.drvDraw s.drawKey := rfl
@[simp] theorem State.resetArm_clk (s : State) : (s.resetArm).clk = 0#32 := rfl
@[simp] theorem State.resetArm_dly (s : State) : (s.resetArm).dly = 0#32 := rfl
@[simp] theorem State.resetArm_frame (s : State) : (s.resetArm).frame = #v[0#8, 0#8, 0#8, 0#8, 0#8] := rfl
@[simp] theorem State.resetArm_bi (s : State) : (s.resetArm).bi = 0#6 := rfl
@[simp] theorem State.resetArm_temp (s : State) : (s.resetArm).temp = 0#8 := rfl
@[simp] theorem State.resetArm_hum (s : State) : (s.resetArm).hum = 0#8 := rfl
@[simp] theorem State.resetArm_valid (s : State) : (s.resetArm).valid = 0#1 := rfl
@[simp] theorem State.resetArm_outcome (s : State) : (s.resetArm).outcome = outcomeNone := rfl
@[simp] theorem State.resetArm_params (s : State) : (s.resetArm).params = s.params := rfl
@[simp] theorem State.resetArm_pins (s : State) : (s.resetArm).pins = s.pins := rfl
@[simp] theorem State.resetArm_view (s : State) : (s.resetArm).view = s.view := rfl
@[simp] theorem State.resetArm_busy (s : State) : (s.resetArm).busy = s.busy := rfl
@[simp] theorem State.resetArm_resp (s : State) : (s.resetArm).resp = s.resp := rfl
@[simp] theorem State.resetArm_events (s : State) : (s.resetArm).events = s.events := rfl
@[simp] theorem State.resetArm_ticks (s : State) : (s.resetArm).ticks = s.ticks := rfl
@[simp] theorem State.resetArm_drawKey (s : State) : (s.resetArm).drawKey = s.drawKey := rfl

/-! `State.startTransaction` -/

@[simp] theorem State.startTransaction_st (s : State) : (s.startTransaction).st = stStartLow := rfl
@[simp] theorem State.startTransaction_dir (s : State) : (s.startTransaction).dir = 1#1 := rfl
@[simp] theorem State.startTransaction_drv (s : State) : (s.startTransaction).drv = 0#1 := rfl
@[simp] theorem State.startTransaction_clk (s : State) : (s.startTransaction).clk = 0#32 := rfl
@[simp] theorem State.startTransaction_dly (s : State) : (s.startTransaction).dly = 0#32 := rfl
@[simp] theorem State.startTransaction_frame (s : State) : (s.startTransaction).frame = #v[0#8, 0#8, 0#8, 0#8, 0#8] := rfl
@[simp] theorem State.startTransaction_bi (s : State) : (s.startTransaction).bi = 0#6 := rfl
@[simp] theorem State.startTransaction_temp (s : State) : (s.startTransaction).temp = s.temp := rfl
@[simp] theorem State.startTransaction_hum (s : State) : (s.startTransaction).hum = s.hum := rfl
@[simp] theorem State.startTransaction_valid (s : State) : (s.startTransaction).valid = s.valid := rfl
@[simp] theorem State.startTransaction_outcome (s : State) : (s.startTransaction).outcome = s.outcome := rfl
@[simp] theorem State.startTransaction_params (s : State) : (s.startTransaction).params = s.params := rfl
@[simp] theorem State.startTransaction_pins (s : State) : (s.startTransaction).pins = s.pins := rfl
@[simp] theorem State.startTransaction_view (s : State) : (s.startTransaction).view = s.view := rfl
@[simp] theorem State.startTransaction_busy (s : State) : (s.startTransaction).busy = s.busy := rfl
@[simp] theorem State.startTransaction_resp (s : State) : (s.startTransaction).resp = s.resp := rfl
@[simp] theorem State.startTransaction_events (s : State) : (s.startTransaction).events = s.events := rfl
@[simp] theorem State.startTransaction_ticks (s : State) : (s.startTransaction).ticks = s.ticks := rfl
@[simp] theorem State.startTransaction_drawKey (s : State) : (s.startTransaction).drawKey = s.drawKey := rfl

/-! `State.countDelay` -/

@[simp] theorem State.countDelay_st (s : State) : (s.countDelay).st = s.st := rfl
@[simp] theorem State.countDelay_dir (s : State) : (s.countDelay).dir = s.dir := rfl
@[simp] theorem State.countDelay_drv (s : State) : (s.countDelay).drv = s.drv := rfl
@[simp] theorem State.countDelay_clk (s : State) : (s.countDelay).clk = s.clk := rfl
@[simp] theorem State.countDelay_frame (s : State) : (s.countDelay).frame = s.frame := rfl
@[simp] theorem State.countDelay_bi (s : State) : (s.countDelay).bi = s.bi := rfl
@[simp] theorem State.countDelay_temp (s : State) : (s.countDelay).temp = s.temp := rfl
@[simp] theorem State.countDelay_hum (s : State) : (s.countDelay).hum = s.hum := rfl
@[simp] theorem State.countDelay_valid (s : State) : (s.countDelay).valid = s.valid := rfl
@[simp] theorem State.countDelay_outcome (s : State) : (s.countDelay).outcome = s.outcome := rfl
@[simp] theorem State.countDelay_params (s : State) : (s.countDelay).params = s.params := rfl
@[simp] theorem State.countDelay_pins (s : State) : (s.countDelay).pins = s.pins := rfl
@[simp] theorem State.countDelay_view (s : State) : (s.countDelay).view = s.view := rfl
@[simp] theorem State.countDelay_busy (s : State) : (s.countDelay).busy = s.busy := rfl
@[simp] theorem State.countDelay_resp (s : State) : (s.countDelay).resp = s.resp := rfl
@[simp] theorem State.countDelay_events (s : State) : (s.countDelay).events = s.events := rfl
@[simp] theorem State.countDelay_ticks (s : State) : (s.countDelay).ticks = s.ticks := rfl
@[simp] theorem State.countDelay_drawKey (s : State) : (s.countDelay).drawKey = s.drawKey := rfl

/-! `State.appendBit` -/

@[simp] theorem State.appendBit_st (s : State) (w : Nat) (j : Fin 5) : (s.appendBit w j).st = if s.bi = 39#6 then stChecksumVerify else stBitWaitHigh := rfl
@[simp] theorem State.appendBit_dir (s : State) (w : Nat) (j : Fin 5) : (s.appendBit w j).dir = s.dir := rfl
@[simp] theorem State.appendBit_drv (s : State) (w : Nat) (j : Fin 5) : (s.appendBit w j).drv = s.drv := rfl
@[simp] theorem State.appendBit_clk (s : State) (w : Nat) (j : Fin 5) : (s.appendBit w j).clk = 0#32 := rfl
@[simp] theorem State.appendBit_dly (s : State) (w : Nat) (j : Fin 5) : (s.appendBit w j).dly = s.dly := rfl
@[simp] theorem State.appendBit_frame (s : State) (w : Nat) (j : Fin 5) : (s.appendBit w j).frame = s.frame.set j (shiftIn s.frame[j] (classifyWidth s.params.thresh w)) := rfl
@[simp] theorem State.appendBit_bi (s : State) (w : Nat) (j : Fin 5) : (s.appendBit w j).bi = s.bi + 1#6 := rfl
@[simp] theorem State.appendBit_temp (s : State) (w : Nat) (j : Fin 5) : (s.appendBit w j).temp = s.temp := rfl
@[simp] theorem State.appendBit_hum (s : State) (w : Nat) (j : Fin 5) : (s.appendBit w j).hum = s.hum := rfl
@[simp] theorem State.appendBit_valid (s : State) (w : Nat) (j : Fin 5) : (s.appendBit w j).valid = s.valid := rfl
@[simp] theorem State.appendBit_outcome (s : State) (w : Nat) (j : Fin 5) : (s.appendBit w j).outcome = s.outcome := rfl
@[simp] theorem State.appendBit_params (s : State) (w : Nat) (j : Fin 5) : (s.appendBit w j).params = s.params := rfl
@[simp] theorem State.appendBit_pins (s : State) (w : Nat) (j : Fin 5) : (s.appendBit w j).pins = s.pins := rfl
@[simp] theorem State.appendBit_view (s : State) (w : Nat) (j : Fin 5) : (s.appendBit w j).view = s.view := rfl
@[simp] theorem State.appendBit_busy (s : State) (w : Nat) (j : Fin 5) : (s.appendBit w j).busy = s.busy := rfl
@[simp] theorem State.appendBit_resp (s : State) (w : Nat) (j : Fin 5) : (s.appendBit w j).resp = s.resp := rfl
@[simp] theorem State.appendBit_events (s : State) (w : Nat) (j : Fin 5) : (s.appendBit w j).events = s.events := rfl
@[simp] theorem State.appendBit_ticks (s : State) (w : Nat) (j : Fin 5) : (s.appendBit w j).ticks = s.ticks := rfl
@[simp] theorem State.appendBit_drawKey (s : State) (w : Nat) (j : Fin 5) : (s.appendBit w j).drawKey = s.drawKey := rfl

/-! `State.storePublish` -/

@[simp] theorem State.storePublish_st (s : State) : (s.storePublish).st = s.st := rfl
@[simp] theorem State.storePublish_dir (s : State) : (s.storePublish).dir = s.dir := rfl
@[simp] theorem State.storePublish_drv (s : State) : (s.storePublish).drv = s.drv := rfl
@[simp] theorem State.storePublish_clk (s : State) : (s.storePublish).clk = s.clk := rfl
@[simp] theorem State.storePublish_dly (s : State) : (s.storePublish).dly = s.dly := rfl
@[simp] theorem State.storePublish_frame (s : State) : (s.storePublish).frame = s.frame := rfl
@[simp] theorem State.storePublish_bi (s : State) : (s.storePublish).bi = s.bi := rfl
@[simp] theorem State.storePublish_temp (s : State) : (s.storePublish).temp = s.frame[2] := rfl
@[simp] theorem State.storePublish_hum (s : State) : (s.storePublish).hum = s.frame[0] := rfl
@[simp] theorem State.storePublish_valid (s : State) : (s.storePublish).valid = 1#1 := rfl
@[simp] theorem State.storePublish_outcome (s : State) : (s.storePublish).outcome = s.outcome := rfl
@[simp] theorem State.storePublish_params (s : State) : (s.storePublish).params = s.params := rfl
@[simp] theorem State.storePublish_pins (s : State) : (s.storePublish).pins = s.pins := rfl
@[simp] theorem State.storePublish_view (s : State) : (s.storePublish).view = s.view := rfl
@[simp] theorem State.storePublish_busy (s : State) : (s.storePublish).busy = s.busy := rfl
@[simp] theorem State.storePublish_resp (s : State) : (s.storePublish).resp = s.resp := rfl
@[simp] theorem State.storePublish_events (s : State) : (s.storePublish).events = s.events := rfl
@[simp] theorem State.storePublish_ticks (s : State) : (s.storePublish).ticks = s.ticks := rfl
@[simp] theorem State.storePublish_drawKey (s : State) : (s.storePublish).drawKey = s.drawKey := rfl

/-! `State.respond` -/

@[simp] theorem State.respond_st (s : State) (r : Response) : (s.respond r).st = s.st := rfl
@[simp] theorem State.respond_dir (s : State) (r : Response) : (s.respond r).dir = s.dir := rfl
@[simp] theorem State.respond_drv (s : State) (r : Response) : (s.respond r).drv = s.drv := rfl
@[simp] theorem State.respond_clk (s : State) (r : Response) : (s.respond r).clk = s.clk := rfl
@[simp] theorem State.respond_dly (s : State) (r : Response) : (s.respond r).dly = s.dly := rfl
@[simp] theorem State.respond_frame (s : State) (r : Response) : (s.respond r).frame = s.frame := rfl
@[simp] theorem State.respond_bi (s : State) (r : Response) : (s.respond r).bi = s.bi := rfl
@[simp] theorem State.respond_temp (s : State) (r : Response) : (s.respond r).temp = s.temp := rfl
@[simp] theorem State.respond_hum (s : State) (r : Response) : (s.respond r).hum = s.hum := rfl
@[simp] theorem State.respond_valid (s : State) (r : Response) : (s.respond r).valid = s.valid := rfl
@[simp] theorem State.respond_outcome (s : State) (r : Response) : (s.respond r).outcome = s.outcome := rfl
@[simp] theorem State.respond_params (s : State) (r : Response) : (s.respond r).params = s.params := rfl
@[simp] theorem State.respond_pins (s : State) (r : Response) : (s.respond r).pins = s.pins := rfl
@[simp] theorem State.respond_view (s : State) (r : Response) : (s.respond r).view = s.view := rfl
@[simp] theorem State.respond_busy (s : State) (r : Response) : (s.respond r).busy = s.busy := rfl
@[simp] theorem State.respond_resp (s : State) (r : Response) : (s.respond r).resp = some r := rfl
@[simp] theorem State.respond_events (s : State) (r : Response) : (s.respond r).events = s.events := rfl
@[simp] theorem State.respond_ticks (s : State) (r : Response) : (s.respond r).ticks = s.ticks := rfl
@[simp] theorem State.respond_drawKey (s : State) (r : Response) : (s.respond r).drawKey = s.drawKey := rfl

/-! `State.tickClock` -/

@[simp] theorem State.tickClock_st (s : State) : (s.tickClock).st = s.st := rfl
@[simp] theorem State.tickClock_dir (s : State) : (s.tickClock).dir = s.dir := rfl
@[simp] theorem State.tickClock_drv (s : State) : (s.tickClock).drv = s.drv := rfl
@[simp] theorem State.tickClock_clk (s : State) : (s.tickClock).clk = satInc s.clk := rfl
@[simp] theorem State.tickClock_dly (s : State) : (s.tickClock).dly = s.dly := rfl
@[simp] theorem State.tickClock_frame (s : State) : (s.tickClock).frame = s.frame := rfl
@[simp] theorem State.tickClock_bi (s : State) : (s.tickClock).bi = s.bi := rfl
@[simp] theorem State.tickClock_temp (s : State) : (s.tickClock).temp = s.temp := rfl
@[simp] theorem State.tickClock_hum (s : State) : (s.tickClock).hum = s.hum := rfl
@[simp] theorem State.tickClock_valid (s : State) : (s.tickClock).valid = s.valid := rfl
@[simp] theorem State.tickClock_outcome (s : State) : (s.tickClock).outcome = s.outcome := rfl
@[simp] theorem State.tickClock_params (s : State) : (s.tickClock).params = s.params := rfl
@[simp] theorem State.tickClock_pins (s : State) : (s.tickClock).pins = s.pins := rfl
@[simp] theorem State.tickClock_view (s : State) : (s.tickClock).view = s.view := rfl
@[simp] theorem State.tickClock_busy (s : State) : (s.tickClock).busy = s.busy := rfl
@[simp] theorem State.tickClock_resp (s : State) : (s.tickClock).resp = s.resp := rfl
@[simp] theorem State.tickClock_events (s : State) : (s.tickClock).events = s.events := rfl
@[simp] theorem State.tickClock_ticks (s : State) : (s.tickClock).ticks = s.ticks := rfl
@[simp] theorem State.tickClock_drawKey (s : State) : (s.tickClock).drawKey = s.drawKey := rfl

/-! `State.occupy` -/

@[simp] theorem State.occupy_st (s : State) (n : Nat) : (s.occupy n).st = s.st := rfl
@[simp] theorem State.occupy_dir (s : State) (n : Nat) : (s.occupy n).dir = s.dir := rfl
@[simp] theorem State.occupy_drv (s : State) (n : Nat) : (s.occupy n).drv = s.drv := rfl
@[simp] theorem State.occupy_clk (s : State) (n : Nat) : (s.occupy n).clk = s.clk := rfl
@[simp] theorem State.occupy_dly (s : State) (n : Nat) : (s.occupy n).dly = s.dly := rfl
@[simp] theorem State.occupy_frame (s : State) (n : Nat) : (s.occupy n).frame = s.frame := rfl
@[simp] theorem State.occupy_bi (s : State) (n : Nat) : (s.occupy n).bi = s.bi := rfl
@[simp] theorem State.occupy_temp (s : State) (n : Nat) : (s.occupy n).temp = s.temp := rfl
@[simp] theorem State.occupy_hum (s : State) (n : Nat) : (s.occupy n).hum = s.hum := rfl
@[simp] theorem State.occupy_valid (s : State) (n : Nat) : (s.occupy n).valid = s.valid := rfl
@[simp] theorem State.occupy_outcome (s : State) (n : Nat) : (s.occupy n).outcome = s.outcome := rfl
@[simp] theorem State.occupy_params (s : State) (n : Nat) : (s.occupy n).params = s.params := rfl
@[simp] theorem State.occupy_pins (s : State) (n : Nat) : (s.occupy n).pins = s.pins := rfl
@[simp] theorem State.occupy_view (s : State) (n : Nat) : (s.occupy n).view = s.view := rfl
@[simp] theorem State.occupy_busy (s : State) (n : Nat) : (s.occupy n).busy = n - 1 := rfl
@[simp] theorem State.occupy_resp (s : State) (n : Nat) : (s.occupy n).resp = s.resp := rfl
@[simp] theorem State.occupy_events (s : State) (n : Nat) : (s.occupy n).events = s.events := rfl
@[simp] theorem State.occupy_ticks (s : State) (n : Nat) : (s.occupy n).ticks = s.ticks := rfl
@[simp] theorem State.occupy_drawKey (s : State) (n : Nat) : (s.occupy n).drawKey = s.drawKey := rfl

/-! `State.quietTick` -/

@[simp] theorem State.quietTick_st (s : State) : (s.quietTick).st = s.st := rfl
@[simp] theorem State.quietTick_dir (s : State) : (s.quietTick).dir = s.dir := rfl
@[simp] theorem State.quietTick_drv (s : State) : (s.quietTick).drv = s.drv := rfl
@[simp] theorem State.quietTick_clk (s : State) : (s.quietTick).clk = satInc s.clk := rfl
@[simp] theorem State.quietTick_dly (s : State) : (s.quietTick).dly = s.dly := rfl
@[simp] theorem State.quietTick_frame (s : State) : (s.quietTick).frame = s.frame := rfl
@[simp] theorem State.quietTick_bi (s : State) : (s.quietTick).bi = s.bi := rfl
@[simp] theorem State.quietTick_temp (s : State) : (s.quietTick).temp = s.temp := rfl
@[simp] theorem State.quietTick_hum (s : State) : (s.quietTick).hum = s.hum := rfl
@[simp] theorem State.quietTick_valid (s : State) : (s.quietTick).valid = s.valid := rfl
@[simp] theorem State.quietTick_outcome (s : State) : (s.quietTick).outcome = s.outcome := rfl
@[simp] theorem State.quietTick_params (s : State) : (s.quietTick).params = s.params := rfl
@[simp] theorem State.quietTick_pins (s : State) : (s.quietTick).pins = s.pins := rfl
@[simp] theorem State.quietTick_view (s : State) : (s.quietTick).view = s.view := rfl
@[simp] theorem State.quietTick_busy (s : State) : (s.quietTick).busy = s.busy - 1 := rfl
@[simp] theorem State.quietTick_resp (s : State) : (s.quietTick).resp = s.resp := rfl
@[simp] theorem State.quietTick_events (s : State) : (s.quietTick).events = s.events := rfl
@[simp] theorem State.quietTick_ticks (s : State) : (s.quietTick).ticks = s.ticks := rfl
@[simp] theorem State.quietTick_drawKey (s : State) : (s.quietTick).drawKey = s.drawKey := rfl

/-! `State.latch` -/

@[simp] theorem State.latch_st (s : State) (p : Pins) (rest : List Event) : (s.latch p rest).st = s.st := rfl
@[simp] theorem State.latch_dir (s : State) (p : Pins) (rest : List Event) : (s.latch p rest).dir = s.dir := rfl
@[simp] theorem State.latch_drv (s : State) (p : Pins) (rest : List Event) : (s.latch p rest).drv = s.drv := rfl
@[simp] theorem State.latch_clk (s : State) (p : Pins) (rest : List Event) : (s.latch p rest).clk = s.clk := rfl
@[simp] theorem State.latch_dly (s : State) (p : Pins) (rest : List Event) : (s.latch p rest).dly = s.dly := rfl
@[simp] theorem State.latch_frame (s : State) (p : Pins) (rest : List Event) : (s.latch p rest).frame = s.frame := rfl
@[simp] theorem State.latch_bi (s : State) (p : Pins) (rest : List Event) : (s.latch p rest).bi = s.bi := rfl
@[simp] theorem State.latch_temp (s : State) (p : Pins) (rest : List Event) : (s.latch p rest).temp = s.temp := rfl
@[simp] theorem State.latch_hum (s : State) (p : Pins) (rest : List Event) : (s.latch p rest).hum = s.hum := rfl
@[simp] theorem State.latch_valid (s : State) (p : Pins) (rest : List Event) : (s.latch p rest).valid = s.valid := rfl
@[simp] theorem State.latch_outcome (s : State) (p : Pins) (rest : List Event) : (s.latch p rest).outcome = s.outcome := rfl
@[simp] theorem State.latch_params (s : State) (p : Pins) (rest : List Event) : (s.latch p rest).params = s.params := rfl
@[simp] theorem State.latch_pins (s : State) (p : Pins) (rest : List Event) : (s.latch p rest).pins = p := rfl
@[simp] theorem State.latch_view (s : State) (p : Pins) (rest : List Event) : (s.latch p rest).view = s.view := rfl
@[simp] theorem State.latch_busy (s : State) (p : Pins) (rest : List Event) : (s.latch p rest).busy = s.busy := rfl
@[simp] theorem State.latch_resp (s : State) (p : Pins) (rest : List Event) : (s.latch p rest).resp = none := rfl
@[simp] theorem State.latch_events (s : State) (p : Pins) (rest : List Event) : (s.latch p rest).events = rest := rfl
@[simp] theorem State.latch_ticks (s : State) (p : Pins) (rest : List Event) : (s.latch p rest).ticks = s.ticks + 1 := rfl
@[simp] theorem State.latch_drawKey (s : State) (p : Pins) (rest : List Event) : (s.latch p rest).drawKey = if s.view = .block ∧ p.rst = 1#1 then s.drawKey else s.drawKey + 1 := rfl

/-! `State.regs` -/

@[simp] theorem State.regs_st (s : State) : s.regs.st = s.st := rfl
@[simp] theorem State.regs_dir (s : State) : s.regs.dir = s.dir := rfl
@[simp] theorem State.regs_drv (s : State) : s.regs.drv = s.drv := rfl
@[simp] theorem State.regs_clk (s : State) : s.regs.clk = s.clk := rfl
@[simp] theorem State.regs_dly (s : State) : s.regs.dly = s.dly := rfl
@[simp] theorem State.regs_frame (s : State) : s.regs.frame = s.frame := rfl
@[simp] theorem State.regs_bi (s : State) : s.regs.bi = s.bi := rfl
@[simp] theorem State.regs_temp (s : State) : s.regs.temp = s.temp := rfl
@[simp] theorem State.regs_hum (s : State) : s.regs.hum = s.hum := rfl
@[simp] theorem State.regs_valid (s : State) : s.regs.valid = s.valid := rfl
@[simp] theorem State.regs_outcome (s : State) : s.regs.outcome = s.outcome := rfl

/-! `mapNext` -/

@[simp] theorem mapNext_next {α : Type} (f : State → α) (s : State) : mapNext f (.next s) = .next (f s) := rfl
@[simp] theorem mapNext_fault {α : Type} (f : State → α) (r : Fault) : mapNext f (.fault r) = .fault r := rfl
@[simp] theorem mapNext_refused {α : Type} (f : State → α) (r : Refusal) : mapNext f (.refused r) = .refused r := rfl

end Sys2Proof.Machine
end

