-- ==== Sys2Proof/Laws/Ops.lean ====
section
/-! SUPPORT. What each shared operation can do, once. -/

namespace Sys2Proof.Machine

@[simp] theorem sat32_toNat (x : Nat) : (sat32 x).toNat = min x (2 ^ 32 - 1) := by
  simp [sat32]

@[simp] theorem satInc_toNat (c : Word) : (satInc c).toNat = min (c.toNat + 1) (2 ^ 32 - 1) := by
  simp [satInc]

@[simp] theorem satNat_toNat (x : Nat) : (satNat x).toNat = min x (2 ^ 32 - 1) := by
  simp [satNat]

/-- The model's `sat32` is the statements' `satNat`. -/
theorem sat32_eq_satNat : sat32 = satNat := rfl

theorem satInc_eq_satNat (c : Word) : satInc c = satNat (c.toNat + 1) := rfl

/-- A saturated count plus one, saturated, is the count plus one, saturated. -/
theorem satInc_satNat (x : Nat) : satInc (satNat x) = satNat (x + 1) := by
  apply BitVec.eq_of_toNat_eq; simp; omega

theorem satNat_self (c : Word) : satNat c.toNat = c := by
  apply BitVec.eq_of_toNat_eq; have := c.isLt; simp; omega

/-- The admitted configurations, in the words of 00_scope.md R8. -/
theorem admitted_iff (p : Params) : admitted p = true ↔ admittedConfig p := by
  rcases p with ⟨a, b, c, d, e, _ | f⟩ <;> simp [admitted, admittedConfig, countAdmitted] <;> omega

/-- The end of a hold, on exact numbers. -/
theorem holdDone_iff (s : State) (t : Nat) : s.holdDone t = true ↔ s.dly.toNat + 1 = t := by
  simp [State.holdDone]

/-- The exact increment of `dly`. -/
theorem countDelay_dly (s : State) (h : s.dly.toNat + 1 < 2 ^ 32) :
    s.countDelay.dly = BitVec.ofNat 32 (s.dly.toNat + 1) := by
  simp only [State.countDelay, if_pos h]

theorem countDelay_dly_toNat (s : State) (h : s.dly.toNat + 1 < 2 ^ 32) :
    s.countDelay.dly.toNat = s.dly.toNat + 1 := by
  rw [countDelay_dly s h, BitVec.toNat_ofNat, Nat.mod_eq_of_lt h]

/-- Everything `await` can do. -/
theorem await_cases (s : State) (want : Bit) (limit : Option Nat) (next : BitVec 4) (o : BitVec 3) :
    (s.pins.line = want ∧ s.await want limit next o = { s with clk := 0#32, st := next }) ∨
    (s.pins.line ≠ want ∧ limit = some (satInc s.clk).toNat ∧ s.await want limit next o = s.abort o) ∨
    (s.pins.line ≠ want ∧ limit ≠ some (satInc s.clk).toNat ∧
      s.await want limit next o = { s with clk := satInc s.clk }) := by
  unfold State.await
  split
  · exact .inl ⟨‹_›, rfl⟩
  · split
    · exact .inr (.inl ⟨‹_›, ‹_›, rfl⟩)
    · exact .inr (.inr ⟨‹_›, ‹_›, rfl⟩)

/-- The model's sum is the sum of 43_check_publish.md R169. -/
theorem frameSum_toNat (f : Vector Byte 5) : (frameSum f).toNat = sumNat f := by
  simp [frameSum, sumNat, BitVec.toNat_add]

/-- Everything `checksumResult` can say. -/
theorem checksumResult_cases (f : Vector Byte 5) :
    (sumNat f ≠ f[4].toNat ∧ checksumResult f = outcomeMismatch) ∨
    (sumNat f = f[4].toNat ∧ sumNat f = 0 ∧ checksumResult f = outcomeAllZero) ∨
    (sumNat f = f[4].toNat ∧ sumNat f ≠ 0 ∧ checksumResult f = outcomeAccepted) := by
  have key : ∀ b : Byte, frameSum f = b ↔ sumNat f = b.toNat := fun b => by
    rw [← frameSum_toNat, BitVec.toNat_inj]
  have h4 := key f[4]
  have h0 : frameSum f = 0#8 ↔ sumNat f = 0 := key 0#8
  unfold checksumResult
  by_cases a : frameSum f = f[4]
  · by_cases z : frameSum f = 0#8
    · refine .inr (.inl ⟨h4.1 a, h0.1 z, ?_⟩)
      rw [if_neg (not_not.2 a), if_pos z]
    · refine .inr (.inr ⟨h4.1 a, fun h => z (h0.2 h), ?_⟩)
      rw [if_neg (not_not.2 a), if_neg z]
  · exact .inl ⟨fun h => a (h4.2 h), if_pos a⟩

/-- The shift-in on exact numbers (42_bit_loop.md R145). -/
theorem shiftIn_toNat (b : Byte) (x : Bit) : (shiftIn b x).toNat = (2 * b.toNat + x.toNat) % 256 := by
  have double : b <<< 1 = b + b := by
    apply BitVec.eq_of_toNat_eq; simp [BitVec.toNat_add, Nat.shiftLeft_eq]; omega
  have sum : shiftIn b x = b + b + x.setWidth 8 := by
    rw [BitVec.add_eq_or_of_and_eq_zero]
    · rw [shiftIn, double]
    · apply BitVec.eq_of_getLsbD_eq
      intro i hi
      rw [← double]
      interval_cases i <;> simp
  rw [sum]
  have := x.isLt
  simp [BitVec.toNat_add]; omega

/-- READING on exact numbers (20_memory.md R55). -/
theorem readingWord_toNat (s : State) :
    s.readingWord.toNat = s.hum.toNat + 2 ^ 8 * s.temp.toNat + 2 ^ 16 * s.valid.toNat := by
  have := s.hum.isLt; have := s.temp.isLt; have := s.valid.isLt
  simp only [State.readingWord, BitVec.toNat_setWidth, append_toNat]; omega

/-- STATUS on exact numbers (20_memory.md R55). -/
theorem statusWord_toNat (s : State) : s.statusWord.toNat = s.st.toNat + 2 ^ 4 * s.outcome.toNat := by
  have := s.st.isLt; have := s.outcome.isLt
  simp only [State.statusWord, BitVec.toNat_setWidth, append_toNat]; omega

/-- A bit is 0 or 1. -/
theorem bit_cases (b : Bit) : b = 0#1 ∨ b = 1#1 := by revert b; decide

theorem bit_ne_zero {b : Bit} : b ≠ 0#1 ↔ b = 1#1 := by revert b; decide

theorem bit_ne_one {b : Bit} : b ≠ 1#1 ↔ b = 0#1 := by revert b; decide

end Sys2Proof.Machine
end

