-- ==== Sys2Proof/Laws/PerInstr.lean ====
section
/-! SUPPORT. The per-instruction family Row: the code of a well-formed instruction fits its row of
spec/opcode_table.json, bit for bit. -/

namespace Sys2Proof.Laws.Row

/-- A row of spec/opcode_table.json: its format, `match` and `mask`. -/
structure TableRow where
  isState : Bool
  isPort : Bool
  bits : Nat
  mask : Nat

/-- The rows, transcribed from spec/opcode_table.json. -/
def row : Instr → TableRow
  | .idle => ⟨true, false, 0x0, 0xf⟩
  | .startLow => ⟨true, false, 0x1, 0xf⟩
  | .startHigh => ⟨true, false, 0x2, 0xf⟩
  | .awaitRespLow => ⟨true, false, 0x3, 0xf⟩
  | .awaitRespHigh => ⟨true, false, 0x4, 0xf⟩
  | .bitSync => ⟨true, false, 0x5, 0xf⟩
  | .bitWaitHigh => ⟨true, false, 0x6, 0xf⟩
  | .bitMeasure => ⟨true, false, 0x7, 0xf⟩
  | .checksumVerify => ⟨true, false, 0x8, 0xf⟩
  | .publish => ⟨true, false, 0x9, 0xf⟩
  | .cooldown => ⟨true, false, 0xa, 0xf⟩
  | .gpioSetDir _ _ => ⟨false, false, 0x00000001, 0xffffffcf⟩
  | .gpioWrite _ => ⟨false, false, 0x00000002, 0xffffffef⟩
  | .gpioRead => ⟨false, false, 0x00000003, 0xffffffff⟩
  | .clkReset => ⟨false, false, 0x00000004, 0xffffffff⟩
  | .clkElapsed => ⟨false, false, 0x00000005, 0xffffffff⟩
  | .delayMs _ => ⟨false, false, 0x00000006, 0x000000ff⟩
  | .delayUs _ => ⟨false, false, 0x00000007, 0x000000ff⟩
  | .classify _ => ⟨false, false, 0x00000008, 0x000000ff⟩
  | .checksum => ⟨false, false, 0x00000009, 0xffffffff⟩
  | .storePublish => ⟨false, false, 0x0000000a, 0xffffffff⟩
  | .storeRead => ⟨false, false, 0x0000000b, 0xffffffff⟩
  | .reading => ⟨false, true, 0x00000000, 0xffffffff⟩
  | .status => ⟨false, true, 0x00000004, 0xffffffff⟩

/-- A code fits a row: it stands in the row's space and its masked bits are the row's. -/
def fits (r : TableRow) : Code → Prop
  | .state c => r.isState = true ∧ c.toNat &&& r.mask = r.bits
  | .command w => r.isState = false ∧ r.isPort = false ∧ w &&& BitVec.ofNat 32 r.mask = BitVec.ofNat 32 r.bits
  | .port (.read offset width) => r.isPort = true ∧ width = 4 ∧ offset.toNat &&& r.mask = r.bits
  | .port (.write _ _ _) => False

/-- The encoding of an instruction fits its row. -/
def Statement (i : Instr) : Prop := fits (row i) (encode i)

/-- The low byte of a command word whose direction and preset bits are 0 is its op, whatever its count. -/
theorem lowByte (op : BitVec 4) (n : BitVec 24) :
    commandWord op 0#1 0#1 n &&& 0xff#32 = op.setWidth 32 := by
  apply BitVec.eq_of_getLsbD_eq
  intro i hi
  simp only [commandWord, BitVec.getLsbD_and, BitVec.getLsbD_append]
  interval_cases i <;> simp

theorem idle : Statement .idle := by simp [Statement, fits, row, encode]
theorem startLow : Statement .startLow := by simp [Statement, fits, row, encode]
theorem startHigh : Statement .startHigh := by simp [Statement, fits, row, encode]
theorem awaitRespLow : Statement .awaitRespLow := by simp [Statement, fits, row, encode]
theorem awaitRespHigh : Statement .awaitRespHigh := by simp [Statement, fits, row, encode]
theorem bitSync : Statement .bitSync := by simp [Statement, fits, row, encode]
theorem bitWaitHigh : Statement .bitWaitHigh := by simp [Statement, fits, row, encode]
theorem bitMeasure : Statement .bitMeasure := by simp [Statement, fits, row, encode]
theorem checksumVerify : Statement .checksumVerify := by simp [Statement, fits, row, encode]
theorem publish : Statement .publish := by simp [Statement, fits, row, encode]
theorem cooldown : Statement .cooldown := by simp [Statement, fits, row, encode]
theorem gpioSetDir (b p : Bit) : Statement (.gpioSetDir b p) := by
  simp only [Statement, fits, row, encode]; revert b p; decide
theorem gpioWrite (b : Bit) : Statement (.gpioWrite b) := by
  simp only [Statement, fits, row, encode]; revert b; decide
theorem gpioRead : Statement .gpioRead := by simp only [Statement, fits, row, encode]; decide
theorem clkReset : Statement .clkReset := by simp only [Statement, fits, row, encode]; decide
theorem clkElapsed : Statement .clkElapsed := by simp only [Statement, fits, row, encode]; decide
theorem delayMs (n : BitVec 24) : Statement (.delayMs n) := by
  exact ⟨rfl, rfl, lowByte 0x6#4 n⟩
theorem delayUs (n : BitVec 24) : Statement (.delayUs n) := by
  exact ⟨rfl, rfl, lowByte 0x7#4 n⟩
theorem classify (n : BitVec 24) : Statement (.classify n) := by
  exact ⟨rfl, rfl, lowByte 0x8#4 n⟩
theorem checksum : Statement .checksum := by simp only [Statement, fits, row, encode]; decide
theorem storePublish : Statement .storePublish := by simp only [Statement, fits, row, encode]; decide
theorem storeRead : Statement .storeRead := by simp only [Statement, fits, row, encode]; decide
theorem reading : Statement .reading := by simp [Statement, fits, row, encode]
theorem status : Statement .status := by simp [Statement, fits, row, encode]

end Sys2Proof.Laws.Row
end

