-- ==== Sys2Proof/Laws/Step.lean ====
section
/-! SUPPORT. Everything a step can do, once. -/

namespace Sys2Proof.Machine

/-- Sampling a listed tick. -/
theorem beginStep_tick {s : State} {p : Pins} {rest : List Event} (h : s.events = .tick p :: rest) :
    s.beginStep = s.latch p rest := by
  simp only [State.beginStep, h]

/-- Sampling a tick the environment has not listed. -/
theorem beginStep_nil {s : State} (h : s.events = []) : s.beginStep = s.latch (freePins s.ticks) [] := by
  simp only [State.beginStep, h]

/-- A reader's turn. -/
theorem beginStep_access {s : State} {a : PortAccess} {rest : List Event} (h : s.events = .access a :: rest) :
    s.beginStep = { s with events := rest, resp := none } := by
  simp only [State.beginStep, h]

/-- Beginning a step writes no register. -/
@[simp] theorem beginStep_regs (s : State) : s.beginStep.regs = s.regs := by
  unfold State.beginStep; split <;> rfl

@[simp] theorem beginStep_params (s : State) : s.beginStep.params = s.params := by
  unfold State.beginStep; split <;> rfl

@[simp] theorem beginStep_view (s : State) : s.beginStep.view = s.view := by
  unfold State.beginStep; split <;> rfl

@[simp] theorem beginStep_busy (s : State) : s.beginStep.busy = s.busy := by
  unfold State.beginStep; split <;> rfl

@[simp] theorem beginStep_resp (s : State) : s.beginStep.resp = none := by
  unfold State.beginStep; split <;> rfl

section
variable (s : State)
@[simp] theorem beginStep_st : s.beginStep.st = s.st := congrArg Regs.st (beginStep_regs s)
@[simp] theorem beginStep_dir : s.beginStep.dir = s.dir := congrArg Regs.dir (beginStep_regs s)
@[simp] theorem beginStep_drv : s.beginStep.drv = s.drv := congrArg Regs.drv (beginStep_regs s)
@[simp] theorem beginStep_clk : s.beginStep.clk = s.clk := congrArg Regs.clk (beginStep_regs s)
@[simp] theorem beginStep_dly : s.beginStep.dly = s.dly := congrArg Regs.dly (beginStep_regs s)
@[simp] theorem beginStep_frame : s.beginStep.frame = s.frame := congrArg Regs.frame (beginStep_regs s)
@[simp] theorem beginStep_bi : s.beginStep.bi = s.bi := congrArg Regs.bi (beginStep_regs s)
@[simp] theorem beginStep_temp : s.beginStep.temp = s.temp := congrArg Regs.temp (beginStep_regs s)
@[simp] theorem beginStep_hum : s.beginStep.hum = s.hum := congrArg Regs.hum (beginStep_regs s)
@[simp] theorem beginStep_valid : s.beginStep.valid = s.valid := congrArg Regs.valid (beginStep_regs s)
@[simp] theorem beginStep_outcome : s.beginStep.outcome = s.outcome := congrArg Regs.outcome (beginStep_regs s)
end

/-- What the next tick's action is when the next step is a tick. -/
theorem nextAction_tick {s : State} (ha : admitted s.params = true) (ht : s.atTick) :
    nextAction s = tickAction s.beginStep := by
  unfold nextAction
  rw [if_pos ha]
  split
  · exact absurd ‹_› (ht _ _)
  · rfl

/-- A code that is an instruction runs it. -/
theorem issue_ok {c : Code} {i : Instr} (h : decode c = .ok i) (t : State) : issue c t = exec i t := by
  simp only [issue, h]

/-- A code that is none stops by name. -/
theorem issue_error {c : Code} {e : DecodeError} (h : decode c = .error e) (t : State) :
    issue c t = decodeStop e := by
  simp only [issue, h]

/-- If issuing a code answers a next state, the code is an instruction and answered it. -/
theorem issue_next {c : Code} {t u : State} (h : issue c t = .next u) :
    ∃ i, decode c = .ok i ∧ exec i t = .next u := by
  unfold issue at h
  split at h
  · exact ⟨_, ‹_›, h⟩
  · rename_i e _
    cases e <;> cases h

/-- A tick of the block view with `rst = 1` is the reset arm. -/
theorem step_reset {s : State} (h : s.atBlockTick) (hr : s.beginStep.pins.rst = 1#1) :
    step s = .next s.beginStep.resetArm := by
  simp only [step, nextAction_tick h.1 h.2.2, tickAction, beginStep_view, h.2.1, if_pos hr]

/-- A tick of the block view with `rst = 0` runs the arm of `st`. -/
theorem step_block {s : State} (h : s.atBlockTick) (hr : s.beginStep.pins.rst = 0#1) :
    step s = issue (.state s.st) s.beginStep := by
  have hr' : ¬ s.beginStep.pins.rst = 1#1 := bit_ne_one.2 hr
  simp only [step, nextAction_tick h.1 h.2.2, tickAction, beginStep_view, h.2.1, if_neg hr', beginStep_st]

/-- A tick of the primitive view with a command and no delay running executes the command. -/
theorem step_command {s : State} {w : Word} (h : s.atPrimitiveTick) (hb : s.busy = 0)
    (hc : s.beginStep.pins.cmd = some w) :
    step s = issue (.command w) s.beginStep := by
  simp only [step, nextAction_tick h.1 h.2.2, tickAction, beginStep_view, h.2.1, beginStep_busy, hb, hc, if_true]

/-- A tick of the primitive view under a delay executes nothing. -/
theorem step_busy {s : State} (h : s.atPrimitiveTick) (hb : s.busy ≠ 0) :
    step s = .next s.beginStep.quietTick := by
  simp only [step, nextAction_tick h.1 h.2.2, tickAction, beginStep_view, h.2.1, beginStep_busy, if_neg hb]

/-- A tick of the primitive view without a command executes nothing. -/
theorem step_noCommand {s : State} (h : s.atPrimitiveTick) (hc : s.beginStep.pins.cmd = none) :
    step s = .next s.beginStep.quietTick := by
  simp only [step, nextAction_tick h.1 h.2.2, tickAction, beginStep_view, h.2.1, hc]
  split <;> rename_i h <;> first | rfl | (split at h <;> simp_all)

/-- A reader's access runs its read. -/
theorem step_access {s : State} {a : PortAccess} {rest : List Event} (ha : admitted s.params = true)
    (he : s.events = .access a :: rest) :
    step s = issue (.port a) { s with events := rest, resp := none } := by
  simp only [step, nextAction, if_pos ha, he, beginStep_access he]

/-- Under a configuration that is not admitted every step is refused. -/
theorem step_badConfig {s : State} (ha : ¬ admitted s.params = true) : step s = .refused .badConfig := by
  simp only [step, nextAction, if_neg ha]

/-- Everything a step that answers a next state can be: a reader's read, the reset arm, a state arm, a command,
or a tick of the primitive view that executes none. -/
theorem step_cases {s t : State} (h : step s = .next t) :
    (∃ a rest i, s.events = .access a :: rest ∧ decodePort a = .ok i ∧ exec i s.beginStep = .next t) ∨
    (s.atBlockTick ∧ s.beginStep.pins.rst = 1#1 ∧ t = s.beginStep.resetArm) ∨
    (s.atBlockTick ∧ s.beginStep.pins.rst = 0#1 ∧ ∃ i, decodeState s.st = .ok i ∧ exec i s.beginStep = .next t) ∨
    (s.atPrimitiveTick ∧ ∃ w i, s.busy = 0 ∧ s.beginStep.pins.cmd = some w ∧ decodeCommand w = .ok i ∧
      exec i s.beginStep = .next t) ∨
    (s.atPrimitiveTick ∧ t = s.beginStep.quietTick) := by
  by_cases ha : admitted s.params = true
  swap
  · rw [step_badConfig ha] at h; cases h
  by_cases ht : s.atTick
  · cases hv : s.view with
    | block =>
      have hb : s.atBlockTick := ⟨ha, hv, ht⟩
      rcases bit_cases s.beginStep.pins.rst with hr | hr
      · rw [step_block hb hr] at h
        exact .inr (.inr (.inl ⟨hb, hr, issue_next h⟩))
      · rw [step_reset hb hr] at h; cases h
        exact .inr (.inl ⟨hb, hr, rfl⟩)
    | primitive =>
      have hp : s.atPrimitiveTick := ⟨ha, hv, ht⟩
      by_cases hbusy : s.busy = 0
      · cases hc : s.beginStep.pins.cmd with
        | none =>
          rw [step_noCommand hp hc] at h; cases h
          exact .inr (.inr (.inr (.inr ⟨hp, rfl⟩)))
        | some w =>
          rw [step_command hp hbusy hc] at h
          obtain ⟨i, hi, hx⟩ := issue_next h
          exact .inr (.inr (.inr (.inl ⟨hp, w, i, hbusy, rfl, hi, hx⟩)))
      · rw [step_busy hp hbusy] at h; cases h
        exact .inr (.inr (.inr (.inr ⟨hp, rfl⟩)))
  · simp only [State.atTick, not_forall, not_not] at ht
    obtain ⟨a, rest, he⟩ := ht
    rw [step_access ha he] at h
    obtain ⟨i, hi, hx⟩ := issue_next h
    exact .inl ⟨a, rest, i, he, hi, by rw [beginStep_access he]; exact hx⟩

/-- A listed tick is a tick. -/
theorem atTick_of_tick {s : State} {p : Pins} {rest : List Event} (h : s.events = .tick p :: rest) :
    s.atTick := by
  intro a r; rw [h]; simp

/-- A listed tick of the block view with `rst = 0` runs the arm of `st`. -/
theorem step_arm {s : State} {p : Pins} {rest : List Event} {i : Instr} (h : s.atBlockTick)
    (he : s.events = .tick p :: rest) (hp : p.rst = 0#1) (hd : decodeState s.st = .ok i) :
    step s = exec i (s.latch p rest) := by
  have hr : s.beginStep.pins.rst = 0#1 := by rw [beginStep_tick he]; exact hp
  rw [step_block h hr, issue_ok (c := .state s.st) hd, beginStep_tick he]

/-- `k + 1` steps are one step and `k` more. -/
theorem steps_succ {s t : State} (k : Nat) (h : step s = .next t) : steps (k + 1) s = steps k t := by
  simp only [steps, h]

@[simp] theorem steps_zero (s : State) : steps 0 s = .next s := rfl

/-- One step. -/
theorem steps_one (s : State) : steps 1 s = step s := by
  simp only [steps]
  cases step s <;> rfl

/-- Steps follow each other. -/
theorem steps_add {j : Nat} (k : Nat) {s t : State} (h : steps j s = .next t) :
    steps (j + k) s = steps k t := by
  induction j generalizing s with
  | zero => cases h; rw [Nat.zero_add]
  | succ j ih =>
    cases hs : step s with
    | next u =>
      rw [steps_succ j hs] at h
      rw [Nat.add_right_comm, steps_succ _ hs, ih h]
    | fault r => simp only [steps, hs] at h; cases h
    | refused r => simp only [steps, hs] at h; cases h

/-- The host's run of any core, by the outcome of its first step. -/
theorem coreRun_next (M : Host.Core) (k : Nat) {s t : M.State} (h : M.step s = .next t) :
    M.run (k + 1) s = M.run k t := by
  simp only [Host.Core.run, h]

theorem coreRun_fault (M : Host.Core) (k : Nat) {s : M.State} {r : M.Fault} (h : M.step s = .fault r) :
    M.run (k + 1) s = .fault r := by
  simp only [Host.Core.run, h]

theorem coreRun_refused (M : Host.Core) (k : Nat) {s : M.State} {r : M.Refusal} (h : M.step s = .refused r) :
    M.run (k + 1) s = .refused r := by
  simp only [Host.Core.run, h]

/-- `steps` is the host's run of the core. -/
theorem steps_eq_run (k : Nat) (s : State) : steps k s = Host.Core.run Sys2Proof.core k s := by
  induction k generalizing s with
  | zero => rfl
  | succ k ih =>
    cases h : step s with
    | next t => rw [steps_succ k h, ih t]; exact (coreRun_next Sys2Proof.core k h).symm
    | fault r => simp only [steps, h]; exact (coreRun_fault Sys2Proof.core k h).symm
    | refused r => simp only [steps, h]; exact (coreRun_refused Sys2Proof.core k h).symm

end Sys2Proof.Machine
end

