-- ==== Sys2Proof/Tests/Slice0.lean ====
section
/-! SUPPORT. The model's own tests, with results from the spec's tables, and for every statement with
hypotheses a named state and operands that meet them. -/

namespace Sys2Proof.Tests

open Sys2Proof Sys2Proof.Machine

/-! Helpers -/

/-- Something of the next state, or none where the step stops. -/
def look {α : Type} (f : State → α) : Host.Outcome State Fault Refusal → Option α
  | .next s => some (f s)
  | .fault _ => none
  | .refused _ => none

/-- The fault of a step, or none. -/
def faultOf : Host.Outcome State Fault Refusal → Option Fault
  | .fault r => some r
  | .next _ => none
  | .refused _ => none

/-- The refusal of a step, or none. -/
def refusalOf : Host.Outcome State Fault Refusal → Option Refusal
  | .refused r => some r
  | .next _ => none
  | .fault _ => none

/-- The samples of a tick without reset and without a command. -/
def pin (go line : Bit) : Pins := { rst := 0#1, go := go, line := line, cmd := none }

/-- The samples of a reset tick. -/
def rstPin : Pins := { rst := 1#1, go := 1#1, line := 1#1, cmd := none }

/-- The samples of a tick in which a command is issued. -/
def cmdPin (line : Bit) (w : Word) : Pins := { rst := 0#1, go := 0#1, line := line, cmd := some w }

/-- The reset state with a state code and one coming tick of the block. -/
def block (c : BitVec 4) (p : Pins) : State := { State.reset with st := c, events := [.tick p] }

/-- The reset state in the primitive view with one coming command. -/
def prim (line : Bit) (w : Word) : State :=
  { State.reset with view := .primitive, events := [.tick (cmdPin line w)] }

/-- The reset state with a reader's access coming. -/
def reader (a : PortAccess) : State := { State.reset with events := [.access a] }

/-- The reset state with a delay count. -/
def held (d : Word) : State := { State.reset with dly := d }

/-- The frame of program P1 (95_test_vectors.md S7). -/
def goodFrame : Vector Byte 5 := #v[0x32#8, 0x00#8, 0x18#8, 0x00#8, 0x4A#8]

/-- A configuration with short holds and limits. -/
def short : Params :=
  { tStartLow := 1, tStartHigh := 2, thresh := 1, tCooldown := 3, respTimeout := 1, bitTimeout := some 2 }

theorem admitted_reference : admitted Params.reference = true := by decide

theorem block_atBlockTick {s : State} {p : Pins} {rest : List Event} (ha : admitted s.params = true)
    (hv : s.view = .block) (he : s.events = .tick p :: rest) : s.atBlockTick :=
  ⟨ha, hv, atTick_of_tick he⟩

theorem prim_atPrimitiveTick {s : State} {p : Pins} {rest : List Event} (ha : admitted s.params = true)
    (hv : s.view = .primitive) (he : s.events = .tick p :: rest) : s.atPrimitiveTick :=
  ⟨ha, hv, atTick_of_tick he⟩

/-! Well-formedness: the one check there is refuses the one ill-formed term (30_encoding.md R75). -/

theorem test_wellFormed_refuses_preset_on_input : (Instr.gpioSetDir 0#1 1#1).wellFormed = false := by decide
theorem test_wellFormed_takes_preset_on_output : (Instr.gpioSetDir 1#1 1#1).wellFormed = true := by decide
theorem test_wellFormed_takes_input : (Instr.gpioSetDir 0#1 0#1).wellFormed = true := by decide

/-! Decoding. State codes from the table of 30_encoding.md R70. -/

theorem test_decode_idle : decode (.state 0b0000#4) = .ok .idle := by decide
theorem test_decode_startLow : decode (.state 0b0001#4) = .ok .startLow := by decide
theorem test_decode_startHigh : decode (.state 0b0010#4) = .ok .startHigh := by decide
theorem test_decode_awaitRespLow : decode (.state 0b0011#4) = .ok .awaitRespLow := by decide
theorem test_decode_awaitRespHigh : decode (.state 0b0100#4) = .ok .awaitRespHigh := by decide
theorem test_decode_bitSync : decode (.state 0b0101#4) = .ok .bitSync := by decide
theorem test_decode_bitWaitHigh : decode (.state 0b0110#4) = .ok .bitWaitHigh := by decide
theorem test_decode_bitMeasure : decode (.state 0b0111#4) = .ok .bitMeasure := by decide
theorem test_decode_checksumVerify : decode (.state 0b1000#4) = .ok .checksumVerify := by decide
theorem test_decode_publish : decode (.state 0b1001#4) = .ok .publish := by decide
theorem test_decode_cooldown : decode (.state 0b1010#4) = .ok .cooldown := by decide
theorem test_decode_reserved_state : decode (.state 0b1011#4) = .error .reservedState := by decide

/-! Command words, bit by bit from the table of R74: `n` in [31:8], 0 in [7:6], `p`, `b`, `op`. -/

theorem test_decode_gpioSetDir_out_high :
    decode (.command 0b000000000000000000000000_00_1_1_0001#32) = .ok (.gpioSetDir 1#1 1#1) := by decide
theorem test_decode_gpioSetDir_in :
    decode (.command 0b000000000000000000000000_00_0_0_0001#32) = .ok (.gpioSetDir 0#1 0#1) := by decide
theorem test_decode_gpioWrite_high :
    decode (.command 0b000000000000000000000000_00_0_1_0010#32) = .ok (.gpioWrite 1#1) := by decide
theorem test_decode_gpioRead :
    decode (.command 0b000000000000000000000000_00_0_0_0011#32) = .ok .gpioRead := by decide
theorem test_decode_clkReset :
    decode (.command 0b000000000000000000000000_00_0_0_0100#32) = .ok .clkReset := by decide
theorem test_decode_clkElapsed :
    decode (.command 0b000000000000000000000000_00_0_0_0101#32) = .ok .clkElapsed := by decide
theorem test_decode_delayMs_18 :
    decode (.command 0b000000000000000000010010_00_0_0_0110#32) = .ok (.delayMs 18#24) := by decide
theorem test_decode_delayUs_30 :
    decode (.command 0b000000000000000000011110_00_0_0_0111#32) = .ok (.delayUs 30#24) := by decide
theorem test_decode_classify_top_bit :
    decode (.command 0b100000000000000000101001_00_0_0_1000#32) = .ok (.classify 0x800029#24) := by decide
theorem test_decode_checksum :
    decode (.command 0b000000000000000000000000_00_0_0_1001#32) = .ok .checksum := by decide
theorem test_decode_storePublish :
    decode (.command 0b000000000000000000000000_00_0_0_1010#32) = .ok .storePublish := by decide
theorem test_decode_storeRead :
    decode (.command 0b000000000000000000000000_00_0_0_1011#32) = .ok .storeRead := by decide

/-- The illegal words of 95_test_vectors.md 2.1. -/
theorem test_decode_illegal_words :
    [0x00000000#32, 0x0000000C#32, 0x00000041#32, 0x00000021#32, 0x00000013#32, 0x00000104#32].map
      (fun w => (Code.command w).legal) = [false, false, false, false, false, false] := by decide

/-! Reader-port requests from 20_memory.md R55 to R57. -/

theorem test_decode_reading : decode (.port (.read 0x0#32 4)) = .ok .reading := by decide
theorem test_decode_status : decode (.port (.read 0x4#32 4)) = .ok .status := by decide
theorem test_decode_misaligned : decode (.port (.read 0x2#32 4)) = .error .portForm := by decide
theorem test_decode_byte_read : decode (.port (.read 0x0#32 1)) = .error .portForm := by decide
theorem test_decode_write : decode (.port (.write 0x0#32 4 7#32)) = .error .portWrite := by decide

/-! The start and response arms (95_test_vectors.md 2.2). -/

theorem test_idle_go : look (fun t => (t.st, t.dir, t.drv)) (step (block 0x0#4 (pin 1#1 1#1))) =
    some (1#4, 1#1, 0#1) := by decide
theorem test_idle_waits : look (fun t => (t.st, t.dir)) (step (block 0x0#4 (pin 0#1 0#1))) =
    some (0#4, 0#1) := by decide
theorem test_startLow_last : look (fun t => (t.st, t.drv, t.dly))
    (step { block 0x1#4 (pin 0#1 0#1) with dly := 17999#32, dir := 1#1 }) = some (2#4, 1#1, 0#32) := by decide
theorem test_startLow_before : look (fun t => (t.st, t.drv, t.dly))
    (step { block 0x1#4 (pin 0#1 0#1) with dly := 17998#32, dir := 1#1 }) = some (1#4, 0#1, 17999#32) := by decide
theorem test_startHigh_last : look (fun t => (t.st, t.dir, t.dly))
    (step { block 0x2#4 (pin 0#1 0#1) with dly := 29#32, dir := 1#1, drv := 1#1 }) = some (3#4, 0#1, 0#32) := by decide
theorem test_startHigh_before : look (fun t => (t.st, t.dir, t.dly))
    (step { block 0x2#4 (pin 0#1 0#1) with dly := 28#32, dir := 1#1, drv := 1#1 }) = some (2#4, 1#1, 29#32) := by decide
theorem test_awaitRespLow_at_limit : look (fun t => (t.st, t.outcome, t.clk))
    (step { block 0x3#4 (pin 0#1 1#1) with clk := 199#32 }) = some (10#4, 2#3, 0#32) := by decide
theorem test_awaitRespLow_level_first : look (fun t => (t.st, t.outcome, t.clk))
    (step { block 0x3#4 (pin 0#1 0#1) with clk := 199#32 }) = some (4#4, 0#3, 0#32) := by decide
theorem test_awaitRespHigh_to_sync : look (fun t => (t.st, t.clk))
    (step { block 0x4#4 (pin 0#1 1#1) with clk := 79#32 }) = some (5#4, 0#32) := by decide
theorem test_awaitRespHigh_counts : look (fun t => (t.st, t.clk))
    (step { block 0x4#4 (pin 0#1 0#1) with clk := 198#32 }) = some (4#4, 199#32) := by decide

/-! The bit loop (95_test_vectors.md 2.3). -/

theorem test_bitSync_low : look (fun t => (t.st, t.clk))
    (step { block 0x5#4 (pin 0#1 0#1) with clk := 79#32 }) = some (6#4, 0#32) := by decide
theorem test_bitSync_timeout : look (fun t => (t.st, t.outcome))
    (step { block 0x5#4 (pin 0#1 1#1) with clk := 199#32 }) = some (10#4, 5#3) := by decide
theorem test_bitWaitHigh_high : look (fun t => (t.st, t.clk))
    (step { block 0x6#4 (pin 0#1 1#1) with clk := 49#32 }) = some (7#4, 0#32) := by decide
theorem test_bitWaitHigh_timeout : look (fun t => (t.st, t.outcome))
    (step { block 0x6#4 (pin 0#1 0#1) with clk := 199#32 }) = some (10#4, 5#3) := by decide
/-- A width of 40 decodes as 0 and one of 41 as 1, shifted into `frame[1]` by the ninth bit. -/
theorem test_bitMeasure_boundary :
    look (fun t => (t.frame[1], t.bi, t.st))
      (step { block 0x7#4 (pin 0#1 0#1) with clk := 39#32, bi := 8#6 }) = some (0#8, 9#6, 6#4) ∧
    look (fun t => (t.frame[1], t.bi, t.st))
      (step { block 0x7#4 (pin 0#1 0#1) with clk := 40#32, bi := 8#6 }) = some (1#8, 9#6, 6#4) := by decide
/-- The abort of 95_test_vectors.md 2.6, from BIT_MEASURE at `bi = 17`. -/
theorem test_bitMeasure_timeout : look (fun t => (t.outcome, t.st, t.bi, t.clk))
    (step { block 0x7#4 (pin 0#1 1#1) with clk := 199#32, bi := 17#6 }) = some (5#3, 10#4, 17#6, 0#32) := by decide
theorem test_classify_40 : look (·.resp) (step (prim 0#1 0x00002808#32)) = some (some (.decoded 0#1)) := by decide
theorem test_classify_41 : look (·.resp) (step (prim 0#1 0x00002908#32)) = some (some (.decoded 1#1)) := by decide

/-! Checksum, publication, cooldown and store (95_test_vectors.md 2.4). -/

theorem test_checksumVerify_accepts : look (fun t => (t.st, t.outcome))
    (step { block 0x8#4 (pin 0#1 0#1) with frame := #v[0x01#8, 0x02#8, 0x03#8, 0x04#8, 0x0A#8] }) =
      some (9#4, 0#3) := by decide
theorem test_checksumVerify_mismatch_first : look (fun t => (t.st, t.outcome))
    (step { block 0x8#4 (pin 0#1 0#1) with frame := #v[0x80#8, 0x80#8, 0x00#8, 0x00#8, 0x01#8] }) =
      some (10#4, 3#3) := by decide
theorem test_publish_good : look (fun t => (t.temp, t.hum, t.valid, t.outcome, t.st))
    (step { block 0x9#4 (pin 0#1 0#1) with frame := goodFrame }) = some (24#8, 50#8, 1#1, 1#3, 10#4) := by decide
theorem test_cooldown_last : look (fun t => (t.st, t.dly))
    (step { block 0xA#4 (pin 1#1 0#1) with dly := 1999999#32 }) = some (0#4, 0#32) := by decide
theorem test_cooldown_before : look (fun t => (t.st, t.dly))
    (step { block 0xA#4 (pin 1#1 0#1) with dly := 1999998#32 }) = some (10#4, 1999999#32) := by decide
theorem test_checksum_accepted : look (·.resp)
    (step { prim 0#1 0x00000009#32 with frame := #v[0xFF#8, 0xFF#8, 0xFF#8, 0xFF#8, 0xFC#8] }) =
      some (some (.verdict .accepted)) := by decide
theorem test_checksum_zero_rejected : look (·.resp)
    (step { prim 0#1 0x00000009#32 with frame := #v[0xFF#8, 0x01#8, 0x00#8, 0x00#8, 0x00#8] }) =
      some (some (.verdict .rejected)) := by decide
theorem test_storePublish : look (fun t => (t.temp, t.hum, t.valid, t.outcome))
    (step { prim 0#1 0x0000000A#32 with frame := #v[0x23#8, 0x00#8, 0x15#8, 0x00#8, 0x38#8] }) =
      some (21#8, 35#8, 1#1, 0#3) := by decide
theorem test_storeRead : look (·.resp)
    (step { prim 0#1 0x0000000B#32 with temp := 24#8, hum := 50#8, valid := 1#1 }) =
      some (some (.stored 24#8 50#8 1#1)) := by decide

/-! Line, clock and delay (95_test_vectors.md 2.1). -/

theorem test_gpioSetDir_out_low : look (fun t => (t.dir, t.drv))
    (step { prim 0#1 0x00000011#32 with dir := 0#1, drv := 1#1 }) = some (1#1, 0#1) := by decide
theorem test_gpioSetDir_in : look (fun t => (t.dir, t.drv))
    (step { prim 0#1 0x00000001#32 with dir := 1#1, drv := 1#1 }) = some (0#1, 1#1) := by decide
theorem test_gpioWrite_high : look (·.drv)
    (step { prim 0#1 0x00000012#32 with dir := 1#1 }) = some 1#1 := by decide
theorem test_gpioWrite_misuse : faultOf (step (prim 0#1 0x00000012#32)) = some .modeMisuse := by decide
theorem test_gpioRead_low : look (·.resp) (step (prim 0#1 0x00000003#32)) = some (some (.level 0#1)) := by decide
theorem test_gpioRead_misuse :
    faultOf (step { prim 0#1 0x00000003#32 with dir := 1#1 }) = some .modeMisuse := by decide
theorem test_clkReset : look (·.clk) (step { prim 0#1 0x00000004#32 with clk := 57#32 }) = some 0#32 := by decide
theorem test_clkElapsed : look (fun t => (t.resp, t.clk))
    (step { prim 0#1 0x00000005#32 with clk := 26#32 }) = some (some (.elapsed 26#32), 27#32) := by decide
/-- 2000000 ticks, the first of them this one. -/
theorem test_delayMs_2000 : look (·.busy) (step (prim 0#1 0x0007D006#32)) = some 1999999 := by decide
theorem test_delayMs_0 : look (·.busy) (step (prim 0#1 0x00000006#32)) = some 0 := by decide
theorem test_delayUs_30 : look (·.busy) (step (prim 0#1 0x00001E07#32)) = some 29 := by decide

/-! The reader port (95_test_vectors.md 2.5), at the end of program P1. -/

theorem test_reading : look (·.resp)
    (step { reader (.read 0x0#32 4) with temp := 24#8, hum := 50#8, valid := 1#1 }) =
      some (some (.word 0x00011832#32)) := by decide
theorem test_status : look (·.resp)
    (step { reader (.read 0x4#32 4) with st := 10#4, outcome := 1#3 }) =
      some (some (.word 0x0000001A#32)) := by decide

/-! Reset and stops (95_test_vectors.md 2.5, 2.6). -/

theorem test_reset_wins_over_publish : look (fun t => (t.st, t.temp, t.hum, t.valid, t.outcome))
    (step { block 0x9#4 rstPin with frame := goodFrame, temp := 1#8, valid := 1#1 }) =
      some (0#4, 0#8, 0#8, 0#1, 0#3) := by decide
theorem test_bad_state : faultOf (step (block 0xB#4 (pin 0#1 0#1))) = some .badState := by decide
theorem test_bad_config : refusalOf (step { block 0x0#4 (pin 0#1 0#1) with
    params := { Params.reference with thresh := 200 } }) = some .badConfig := by decide
theorem test_port_write_refused :
    refusalOf (step (reader (.write 0x0#32 4 7#32))) = some .portWrite := by decide
theorem test_port_misaligned_refused :
    refusalOf (step (reader (.read 0x2#32 4))) = some .portForm := by decide

/-! `withFetchWord` places a word where the next step takes it. -/

theorem test_withFetchWord_cooldown :
    look (·.dly) (step (State.reset.withFetchWord 8 0xA)) = some 1#32 := by decide
theorem test_withFetchWord_classify :
    look (·.resp) (step (State.reset.withFetchWord 32 0x00002908)) = some (some (.decoded 1#1)) := by decide

/-! Witnesses: for each statement with hypotheses, states and operands that meet all of them, at the boundary
values of its clauses. The theorem is named after its statement. -/

theorem witness_DecodeOfEncode :
    (Instr.gpioSetDir 1#1 1#1).wellFormed = true ∧ (Instr.delayMs 0xFFFFFF#24).wellFormed = true := by decide

theorem witness_EncodeOfDecode :
    decode (.command 0xFFFFFF08#32) = .ok (.classify 0xFFFFFF#24) ∧ decode (.state 0xA#4) = .ok .cooldown := by decide

theorem illegalWord_witness : illegalWord 0x00000021#32 ∧ illegalWord 0x0000000C#32 ∧ illegalWord 0x00000041#32 ∧
    illegalWord 0x00000013#32 ∧ illegalWord 0x00000104#32 ∧ illegalWord 0x00000000#32 := by
  simp [illegalWord]

theorem witness_IllegalWordsFault :
    (prim 0#1 0x00000021#32).atPrimitiveTick ∧ (prim 0#1 0x00000021#32).busy = 0 ∧
    (prim 0#1 0x00000021#32).beginStep.pins.cmd = some 0x00000021#32 ∧ illegalWord 0x00000021#32 :=
  ⟨prim_atPrimitiveTick admitted_reference rfl rfl, rfl, rfl, illegalWord_witness.1⟩

theorem witness_ReservedCodesFault : ∀ c ∈ [0xB#4, 0xF#4],
    (block c (pin 0#1 0#1)).atBlockTick ∧ (block c (pin 0#1 0#1)).beginStep.pins.rst = 0#1 ∧
    11 ≤ (block c (pin 0#1 0#1)).st.toNat := by
  intro c hc
  refine ⟨block_atBlockTick admitted_reference rfl rfl, rfl, ?_⟩
  revert c; decide

theorem witness_ReservedCodesFault_written : ∃ t, step (block 0x0#4 (pin 1#1 0#1)) = .next t ∧
    t.st ≠ (block 0x0#4 (pin 1#1 0#1)).st := ⟨_, rfl, by decide⟩

theorem witness_StepRunsDecoded :
    ((block 0x9#4 (pin 0#1 0#1)).atBlockTick ∧ (block 0x9#4 (pin 0#1 0#1)).beginStep.pins.rst = 0#1 ∧
      decode (.state (block 0x9#4 (pin 0#1 0#1)).st) = .ok .publish) ∧
    ((prim 0#1 0x00000003#32).atPrimitiveTick ∧ (prim 0#1 0x00000003#32).busy = 0 ∧
      (prim 0#1 0x00000003#32).beginStep.pins.cmd = some 0x00000003#32 ∧
      decode (.command 0x00000003#32) = .ok .gpioRead) ∧
    (admitted (reader (.read 0x4#32 4)).params = true ∧
      (reader (.read 0x4#32 4)).events = .access (.read 0x4#32 4) :: [] ∧
      decode (.port (.read 0x4#32 4)) = .ok .status) ∧
    (block 0x9#4 (pin 0#1 0#1)).events = .tick (pin 0#1 0#1) :: [] :=
  ⟨⟨block_atBlockTick admitted_reference rfl rfl, rfl, rfl⟩, ⟨prim_atPrimitiveTick admitted_reference rfl rfl, rfl, rfl, by decide⟩,
    ⟨by decide, rfl, rfl⟩, rfl⟩

theorem witness_ResetArmWrites :
    (block 0x9#4 rstPin).atBlockTick ∧ (block 0x9#4 rstPin).beginStep.pins.rst = 1#1 :=
  ⟨block_atBlockTick admitted_reference rfl rfl, rfl⟩

theorem witness_ResetHeldIsStable :
    let s : State := { State.reset with st := 9#4, events := .tick rstPin :: ([rstPin, rstPin].map .tick ++ []) }
    s.view = .block ∧ rstPin.rst = 1#1 ∧ (∀ q ∈ [rstPin, rstPin], q.rst = 1#1) ∧ ∃ t, step s = .next t :=
  ⟨rfl, rfl, by decide, _, rfl⟩

/-- Both sides of 00_scope.md R8: THRESH one below BIT_TIMEOUT, and equal to it. -/
theorem witness_BadConfigRefused :
    admittedConfig { Params.reference with thresh := 199 } ∧
    ¬ admittedConfig { Params.reference with thresh := 200 } ∧
    ¬ admittedConfig { Params.reference with tCooldown := 0 } := by
  simp [admittedConfig, Params.reference]

theorem witness_ParamsNeverWritten : ∃ t, step (block 0x0#4 (pin 1#1 1#1)) = .next t := ⟨_, rfl⟩

/-- A state in the middle of the bit loop that meets the invariant. -/
def inLoop : State := { block 0x7#4 (pin 0#1 0#1) with clk := 199#32, bi := 39#6 }

theorem inLoop_inv : BlockInv inLoop where
  blockView := rfl
  spec := by constructor <;> simp [inLoop, block, State.reset, Params.reference]
  biFresh := by simp [inLoop, block]

theorem witness_StepKeepsInv : BlockInv inLoop ∧ ∃ t, step inLoop = .next t := ⟨inLoop_inv, _, rfl⟩

theorem witness_ResetMeetsInv : admitted short = true := by decide

theorem witness_ReachableInvariants :
    admitted short = true ∧
    ∃ t, steps 2 { State.reset with params := short, events := [pin 1#1 1#1, pin 0#1 1#1].map .tick } = .next t :=
  ⟨by decide, _, rfl⟩

theorem witness_BlockTickCompletes : BlockInv inLoop ∧ inLoop.atBlockTick :=
  ⟨inLoop_inv, block_atBlockTick admitted_reference rfl rfl⟩

theorem witness_NoFaultFromReset : admitted Params.reference = true ∧ admitted short = true := by decide

theorem witness_IdleArm : (pin 1#1 0#1).go = 1#1 ∧ (pin 0#1 0#1).go = 0#1 := by decide

/-- One tick before the hold's end, at it, and at the end of the counter's range. -/
theorem witness_StartLowArm :
    (let s := held 17999#32; s.dly.toNat + 1 = s.params.tStartLow) ∧
    (let s := held 17998#32;
      s.dly.toNat + 1 ≠ s.params.tStartLow ∧ s.dly.toNat + 1 < 2 ^ 32) ∧
    (let s := held 0xFFFFFFFF#32;
      s.dly.toNat + 1 ≠ s.params.tStartLow ∧ s.dly.toNat + 1 = 2 ^ 32) := by decide

theorem witness_StartHighArm :
    (let s := held 29#32; s.dly.toNat + 1 = s.params.tStartHigh) ∧
    (let s := held 28#32;
      s.dly.toNat + 1 ≠ s.params.tStartHigh ∧ s.dly.toNat + 1 < 2 ^ 32) ∧
    (let s := held 0xFFFFFFFF#32;
      s.dly.toNat + 1 ≠ s.params.tStartHigh ∧ s.dly.toNat + 1 = 2 ^ 32) := by decide

theorem witness_CooldownArm :
    (let s := held 1999999#32; s.dly.toNat + 1 = s.params.tCooldown) ∧
    (let s := held 1999998#32;
      s.dly.toNat + 1 ≠ s.params.tCooldown ∧ s.dly.toNat + 1 < 2 ^ 32) ∧
    (let s := held 0xFFFFFFFF#32;
      s.dly.toNat + 1 ≠ s.params.tCooldown ∧ s.dly.toNat + 1 = 2 ^ 32) := by decide

/-- For the wait of AWAIT_RESP_LOW: success, the last sample of the limit, and one before it. -/
theorem witness_AwaitArms :
    let a : Wait :=
      { arm := .awaitRespLow, code := 3#4, want := 0#1, limit := some 200, next := 4#4, out := 2#3 }
    a ∈ waits State.reset.params ∧ (pin 0#1 0#1).line = a.want ∧ (pin 0#1 1#1).line ≠ a.want ∧
    a.limit = some (satNat ((199#32).toNat + 1)).toNat ∧ a.limit ≠ some (satNat ((198#32).toNat + 1)).toNat :=
  ⟨List.mem_cons_self .., by decide, by decide, by decide, by decide⟩

/-- BIT_SYNC with BIT_TIMEOUT 2: a match in the second sample. -/
theorem witness_AwaitSucceedsWithinLimit :
    let s : State := { State.reset with
      st := 5#4, params := short, events := [pin 0#1 1#1].map .tick ++ .tick (pin 0#1 0#1) :: [] }
    let a : Wait := { arm := .bitSync, code := 5#4, want := 0#1, limit := some 2, next := 6#4, out := 5#3 }
    s.atBlockTick ∧ a ∈ waits s.params ∧ s.st = a.code ∧ s.clk = 0#32 ∧ (1#1 : Bit) ≠ a.want ∧
    Steady 1#1 [pin 0#1 1#1] ∧ (pin 0#1 0#1).rst = 0#1 ∧ (pin 0#1 0#1).line = a.want ∧
    ∀ limit, a.limit = some limit → [pin 0#1 1#1].length < limit := by
  refine ⟨block_atBlockTick admitted_reference rfl rfl, by simp [waits, short], rfl, rfl, by decide, ?_, rfl, rfl, ?_⟩
  · simp [Steady, pin]
  · simp

/-- BIT_SYNC with BIT_TIMEOUT 2 and two High samples. -/
theorem witness_AwaitAbortsAtLimit :
    let ps := [pin 0#1 1#1, pin 1#1 1#1]
    let s : State := { State.reset with st := 5#4, params := short, events := ps.map .tick ++ [] }
    let a : Wait := { arm := .bitSync, code := 5#4, want := 0#1, limit := some 2, next := 6#4, out := 5#3 }
    s.atBlockTick ∧ a ∈ waits s.params ∧ s.st = a.code ∧ s.clk = 0#32 ∧ (1#1 : Bit) ≠ a.want ∧
    Steady 1#1 ps ∧ a.limit = some ps.length := by
  refine ⟨block_atBlockTick admitted_reference rfl rfl, by simp [waits, short], rfl, rfl, by decide, ?_, rfl⟩
  simp [Steady, pin]

/-- COOLDOWN with T_COOLDOWN 3: after two ticks and after the third; START_LOW and START_HIGH at their last. -/
theorem witness_HoldsLastExactly : ∀ row ∈ [(10#4, 2), (10#4, 3), (1#4, 1), (2#4, 2)],
    let ps := List.replicate row.2 (pin 1#1 0#1)
    let s : State := { State.reset with st := row.1, params := short, events := ps.map .tick ++ [] }
    s.atBlockTick ∧ s.dly = 0#32 ∧ (∀ p ∈ ps, p.rst = 0#1) ∧
    (s.st = 10#4 → ps.length ≤ s.params.tCooldown) ∧ (s.st = 1#4 → ps.length ≤ s.params.tStartLow) ∧
    (s.st = 2#4 → ps.length ≤ s.params.tStartHigh) := by
  intro row hr
  simp only [List.mem_cons, List.not_mem_nil, or_false] at hr
  rcases hr with rfl | rfl | rfl | rfl <;>
    exact ⟨block_atBlockTick admitted_reference rfl rfl, rfl, by decide, by decide, by decide, by decide⟩

/-- The end of a pulse at the first and the last bit, and the timeout's two sides. -/
theorem witness_BitMeasureArm :
    (pin 0#1 0#1).line = 0#1 ∧ (0#6).toNat < 40 ∧ (39#6).toNat < 40 ∧ (pin 0#1 1#1).line = 1#1 ∧
    State.reset.params.bitTimeout = some (satNat ((199#32).toNat + 1)).toNat ∧
    State.reset.params.bitTimeout ≠ some (satNat ((198#32).toNat + 1)).toNat := by decide

theorem witness_BitMeasureBeyondFrame : (pin 0#1 0#1).line = 0#1 ∧ 40 ≤ (40#6).toNat := by decide

theorem measurable_shortest : (Pulse.mk 0 1).measurable short := by simp [Pulse.measurable, short]
theorem measurable_longest : (Pulse.mk 1 2).measurable short := by simp [Pulse.measurable, short]

/-- With THRESH 1 and BIT_TIMEOUT 2: the longest pulse, as bit 39. -/
theorem witness_PulseDecodesToBit :
    let s : State := { State.reset with
      st := 6#4, bi := 39#6, params := short, events := (Pulse.mk 1 2).ticks ++ [] }
    s.atBlockTick ∧ s.st = 6#4 ∧ s.clk = 0#32 ∧ s.bi.toNat < 40 ∧ (Pulse.mk 1 2).measurable s.params :=
  ⟨block_atBlockTick admitted_reference rfl rfl, rfl, rfl, by decide, measurable_longest⟩

/-- Forty pulses of the shortest width. -/
theorem witness_FortyPulsesFillFrame :
    let pulses := List.replicate 40 (Pulse.mk 0 1)
    let s : State := { State.reset with
      st := 6#4, params := short, events := pulses.flatMap Pulse.ticks ++ [] }
    s.atBlockTick ∧ s.st = 6#4 ∧ s.clk = 0#32 ∧ s.bi = 0#6 ∧ pulses.length = 40 ∧
    ∀ p ∈ pulses, p.measurable s.params := by
  refine ⟨block_atBlockTick admitted_reference rfl rfl, rfl, rfl, rfl, rfl, ?_⟩
  intro p hp
  rw [List.eq_of_mem_replicate hp]
  exact measurable_shortest

/-- Each bit-loop state with the level it does not wait for. -/
theorem witness_UnboundedWaitHangs : ∀ row ∈ [(5#4, 1#1), (6#4, 0#1), (7#4, 1#1)],
    let ps := [pin 0#1 row.2, pin 1#1 row.2]
    let s : State := { State.reset with
      st := row.1, params := { short with bitTimeout := none }, events := ps.map .tick ++ [] }
    s.atBlockTick ∧ s.params.bitTimeout = none ∧
    (s.st = 5#4 ∧ row.2 = 1#1 ∨ s.st = 6#4 ∧ row.2 = 0#1 ∨ s.st = 7#4 ∧ row.2 = 1#1) ∧ Steady row.2 ps := by
  intro row hr
  refine ⟨block_atBlockTick (by show admitted { short with bitTimeout := none } = true; decide) rfl rfl, rfl, ?_, ?_⟩
  · revert row; decide
  · simp [Steady, pin]

theorem witness_ChecksumVerifyArm :
    (sumNat goodFrame = goodFrame[4].toNat ∧ sumNat goodFrame ≠ 0) ∧
    (let f : Vector Byte 5 := #v[0x80#8, 0x80#8, 0#8, 0#8, 1#8]; sumNat f ≠ f[4].toNat) ∧
    (let f : Vector Byte 5 := #v[0xFF#8, 1#8, 0#8, 0#8, 0#8]; sumNat f = f[4].toNat ∧ sumNat f = 0) := by decide

/-- With short holds: the longest answer phases, all pulses of width 2 (bits 1) but the last bits' own, so that
every byte reads 0xFF but the check byte 0xFC. -/
def acceptedPulses : List Pulse :=
  List.replicate 38 (Pulse.mk 1 2) ++ List.replicate 2 (Pulse.mk 0 1)

theorem witness_TransactionPublishesItsFrame :
    let hold := List.replicate 3 (pin 0#1 0#1)
    let w : Answer := { high := 0, respLow := 1, respHigh := 2, pulses := acceptedPulses }
    let events : List Event :=
      .tick (pin 1#1 1#1) :: (hold.map .tick ++ (w.ticks ++ .tick (pin 0#1 0#1) :: [.tick (pin 0#1 0#1)]))
    let s : State := { State.reset with params := short, events := events }
    s.atBlockTick ∧ s.st = 0#4 ∧ (pin 1#1 1#1).rst = 0#1 ∧ (pin 1#1 1#1).go = 1#1 ∧ (∀ x ∈ hold, x.rst = 0#1) ∧
    hold.length = s.params.tStartLow + s.params.tStartHigh ∧ w.heard s.params ∧ (pin 0#1 0#1).rst = 0#1 := by
  refine ⟨block_atBlockTick (by decide) rfl rfl, rfl, rfl, rfl, by decide, rfl, ?_, rfl⟩
  refine ⟨by decide, by decide, by decide, by simp [short], rfl, ?_⟩
  intro p hp
  simp only [acceptedPulses, List.mem_append, List.mem_replicate] at hp
  rcases hp with ⟨-, rfl⟩ | ⟨-, rfl⟩
  · exact measurable_longest
  · exact measurable_shortest

/-- The frame of the witness is one that the checksum accepts (95_test_vectors.md 2.4). -/
theorem witness_TransactionPublishesItsFrame_accepted :
    let f : Vector Byte 5 := #v[0xFF#8, 0xFF#8, 0xFF#8, 0xFF#8, 0xFC#8]
    sumNat f = f[4].toNat ∧ sumNat f ≠ 0 := by decide

theorem witness_GpioWritePrimitive :
    (prim 0#1 0x00000012#32).dir = 0#1 ∧ { prim 0#1 0x00000012#32 with dir := 1#1 }.dir = 1#1 := by decide

theorem witness_GpioReadPrimitive :
    (prim 0#1 0x00000003#32).dir = 0#1 ∧ { prim 0#1 0x00000003#32 with dir := 1#1 }.dir = 1#1 := by decide

/-- A delay of two ticks with another command offered in the second, and one of 0, which takes one tick. -/
theorem witness_DelaysOccupyTicks :
    let p := cmdPin 0#1 0x00000207#32
    let ps := [cmdPin 0#1 0x00000004#32]
    let s : State := { State.reset with view := .primitive, events := .tick p :: (ps.map .tick ++ []) }
    admitted s.params = true ∧ s.view = .primitive ∧ s.busy = 0 ∧ p.cmd = some 0x00000207#32 ∧
    decode (.command 0x00000207#32) = .ok (.delayUs 2#24) ∧ ps.length + 1 ≤ max 1 (2#24).toNat ∧
    decode (.command 0x00000006#32) = .ok (.delayMs 0#24) ∧ [].length (α := Pins) + 1 ≤ max 1 (1000 * (0#24).toNat) := by
  decide

/-- An admitted read, a read at a third offset, and one of another width. -/
theorem witness_PortAdmitsTwoReads : ∀ a ∈ [(0x4#32, 4), (0x8#32, 4), (0x0#32, 2)],
    admitted (reader (.read a.1 a.2)).params = true ∧
    (reader (.read a.1 a.2)).events = .access (.read a.1 a.2) :: [] :=
  fun _ _ => ⟨admitted_reference, rfl⟩

theorem witness_PortWritesRefused :
    admitted (reader (.write 0x0#32 4 7#32)).params = true ∧
    (reader (.write 0x0#32 4 7#32)).events = .access (.write 0x0#32 4 7#32) :: [] := ⟨by decide, rfl⟩

theorem witness_ReadsAreIdempotent : ∀ a : PortAccess,
    let s : State := { State.reset with events := List.replicate (1 + 1) (.access a) ++ [] }
    admitted s.params = true ∧ s.events = List.replicate (1 + 1) (.access a) ++ [] :=
  fun _ => ⟨admitted_reference, rfl⟩

/-- An abort, whose tick runs with `rst = 0` and outside PUBLISH. -/
theorem witness_StoreWrittenOnlyByPublish :
    let s : State := { block 0x3#4 (pin 0#1 1#1) with clk := 199#32, temp := 24#8, valid := 1#1 }
    s.view = .block ∧ (∃ t, step s = .next t) ∧ (s.atTick → s.beginStep.pins.rst = 0#1 ∧ s.st ≠ 9#4) :=
  ⟨rfl, ⟨_, rfl⟩, fun _ => ⟨rfl, by decide⟩⟩

/-- A tick of PUBLISH, one of IDLE, and a read while PUBLISH is next. -/
theorem witness_PublicationIsAtomic :
    (let s : State := { block 0x9#4 (pin 0#1 1#1) with frame := goodFrame };
      s.view = .block ∧ (∃ t, step s = .next t) ∧ s.beginStep.pins.rst = 0#1 ∧ s.atTick ∧ s.st = 9#4) ∧
    (let s : State := { block 0x0#4 (pin 0#1 1#1) with frame := goodFrame };
      s.view = .block ∧ (∃ t, step s = .next t) ∧ s.beginStep.pins.rst = 0#1 ∧ s.st ≠ 9#4) ∧
    (let s : State := { reader (.read 0x0#32 4) with st := 9#4, frame := goodFrame };
      s.view = .block ∧ (∃ t, step s = .next t) ∧ ¬ s.atTick) :=
  ⟨⟨rfl, ⟨_, rfl⟩, rfl, atTick_of_tick rfl, rfl⟩, ⟨rfl, ⟨_, rfl⟩, rfl, by decide⟩,
    ⟨rfl, ⟨_, rfl⟩, fun h => h _ _ rfl⟩⟩

theorem witness_ValidClearedOnlyByReset :
    let s : State := { block 0x0#4 rstPin with valid := 1#1 }
    ∃ t, step s = .next t ∧ s.valid = 1#1 ∧ t.valid = 0#1 := ⟨_, rfl, rfl, rfl⟩

/-- An abort with NO_RESPONSE, and PUBLISH. -/
theorem witness_OutcomeWriters :
    (let s : State := { block 0x3#4 (pin 0#1 1#1) with clk := 199#32 }
      ∃ t, step s = .next t ∧ (s.atBlockTick → s.beginStep.pins.rst = 0#1) ∧ t.outcome ≠ s.outcome) ∧
    (let s : State := block 0x9#4 (pin 0#1 1#1);
      ∃ t, step s = .next t ∧ (s.atBlockTick → s.beginStep.pins.rst = 0#1) ∧ t.outcome ≠ s.outcome) :=
  ⟨⟨_, rfl, fun _ => rfl, by decide⟩, ⟨_, rfl, fun _ => rfl, by decide⟩⟩

theorem witness_OutcomeNeverRead : Instr.publish ≠ .status := by decide

theorem witness_LineIgnoredElsewhere : ∀ c ∈ [0x0#4, 0x2#4, 0x8#4, 0xF#4],
    (block c (pin 0#1 0#1)).view = .block ∧
    ((block c (pin 0#1 0#1)).st.toNat < 3 ∨ 7 < (block c (pin 0#1 0#1)).st.toNat) := by
  intro c hc
  refine ⟨rfl, ?_⟩
  revert c; decide

theorem witness_GoIgnoredOutsideIdle : (block 0xA#4 (pin 0#1 0#1)).view = .block ∧
    (block 0xA#4 (pin 0#1 0#1)).st ≠ 0#4 := by decide

/-- The drive begins, is released after the start sequence, and is released by reset. -/
theorem witness_DirectionChanges :
    (let s := block 0x0#4 (pin 1#1 1#1);
      s.view = .block ∧ ∃ t, step s = .next t ∧ s.dir = 0#1 ∧ t.dir = 1#1) ∧
    (let s : State := { block 0x2#4 (pin 0#1 1#1) with dir := 1#1, dly := 29#32 };
      s.view = .block ∧ ∃ t, step s = .next t ∧ s.dir = 1#1 ∧ t.dir = 0#1) ∧
    (let s : State := { block 0x1#4 rstPin with dir := 1#1 };
      s.view = .block ∧ ∃ t, step s = .next t ∧ s.dir = 1#1 ∧ t.dir = 0#1) :=
  ⟨⟨rfl, _, rfl, rfl, rfl⟩, ⟨rfl, _, rfl, rfl, rfl⟩, ⟨rfl, _, rfl, rfl, rfl⟩⟩

theorem witness_ReleasedLevelUnobservable : (block 0x0#4 (pin 1#1 1#1)).dir = 0#1 := by decide

theorem witness_ClockNeverWraps :
    ∃ t, step { block 0x7#4 (pin 0#1 1#1) with clk := 0xFFFFFFFF#32 } = .next t := ⟨_, rfl⟩

theorem witness_PrimitiveViewFrame : ∀ w ∈ [0x0000000A#32, 0x00000004#32],
    (prim 0#1 w).view = .primitive ∧ ∃ t, step (prim 0#1 w) = .next t := by
  intro w hw
  simp only [List.mem_cons, List.not_mem_nil, or_false] at hw
  rcases hw with rfl | rfl <;> exact ⟨rfl, _, rfl⟩

end Sys2Proof.Tests
end

/-! # The statements of 00_scope.md

No instruction touches what stands around the registers (the configuration, the view, the inputs and the model's
counters) and none refuses: `exec_keepsSetting` says so once, arm by arm. That no step writes the configuration or
changes the view, and that an admitted configuration is never refused with BadConfig, both follow from it. -/

namespace Sys2Proof.Machine

/-- What stands around the registers: the fields of State that no instruction writes. -/
structure Setting where
  params : Params
  pins : Pins
  view : View
  events : List Event
  ticks : Nat
  drawKey : Nat

/-- The setting of a state. -/
def State.setting (s : State) : Setting where
  params := s.params
  pins := s.pins
  view := s.view
  events := s.events
  ticks := s.ticks
  drawKey := s.drawKey

@[simp] theorem State.setting_params (s : State) : s.setting.params = s.params := rfl
@[simp] theorem State.setting_pins (s : State) : s.setting.pins = s.pins := rfl
@[simp] theorem State.setting_view (s : State) : s.setting.view = s.view := rfl
@[simp] theorem State.setting_events (s : State) : s.setting.events = s.events := rfl
@[simp] theorem State.setting_ticks (s : State) : s.setting.ticks = s.ticks := rfl
@[simp] theorem State.setting_drawKey (s : State) : s.setting.drawKey = s.drawKey := rfl

@[simp] theorem State.await_setting (s : State) (want : Bit) (limit : Option Nat) (next : BitVec 4)
    (o : BitVec 3) : (s.await want limit next o).setting = s.setting := by
  obtain ⟨-, e⟩ | ⟨-, -, e⟩ | ⟨-, -, e⟩ := await_cases s want limit next o <;> rw [e] <;> rfl

@[simp] theorem State.setDirection_setting (s : State) (b p : Bit) :
    (s.setDirection b p).setting = s.setting := by
  unfold State.setDirection; split <;> rfl

/-- An answer to `s` that is a fault, or a next state with the setting of `s`; never a refusal. -/
inductive KeepsSetting (s : State) : Host.Outcome State Fault Refusal → Prop
  | fault (r : Fault) : KeepsSetting s (.fault r)
  | next {t : State} (h : t.setting = s.setting) : KeepsSetting s (.next t)

namespace KeepsSetting

variable {s t : State} {a b : Host.Outcome State Fault Refusal}

theorem ite {c : Prop} [Decidable c] (ha : KeepsSetting s a) (hb : KeepsSetting s b) :
    KeepsSetting s (if c then a else b) := by
  split
  · exact ha
  · exact hb

theorem setting_eq (h : KeepsSetting s (.next t)) : t.setting = s.setting := by
  cases h; assumption

theorem ne_refused (h : KeepsSetting s a) (r : Refusal) : a ≠ .refused r := by
  cases h <;> nofun

end KeepsSetting

/-- BIT_MEASURE's index test is the one branch of an arm that binds its condition. -/
theorem execBitMeasure_keepsSetting (s : State) : KeepsSetting s (execBitMeasure s) := by
  refine .ite ?_ (.ite (.next rfl) (.next rfl))
  split
  · exact .next rfl
  · exact .fault .frameIndex

/-- Every instruction faults or answers a state with the same setting. -/
theorem exec_keepsSetting (i : Instr) (s : State) : KeepsSetting s (exec i s) := by
  cases i with
  | idle => exact .ite (.next rfl) (.next rfl)
  | startLow => exact .ite (.next rfl) (.next rfl)
  | startHigh => exact .ite (.next rfl) (.next rfl)
  | awaitRespLow => exact .next (s.await_setting ..)
  | awaitRespHigh => exact .next (s.await_setting ..)
  | bitSync => exact .next (s.await_setting ..)
  | bitWaitHigh => exact .next (s.await_setting ..)
  | bitMeasure => exact execBitMeasure_keepsSetting s
  | checksumVerify => exact .ite (.next rfl) (.next rfl)
  | publish => exact .next rfl
  | cooldown => exact .ite (.next rfl) (.next rfl)
  | gpioSetDir b p => exact .next (s.tickClock.setDirection_setting b p)
  | gpioWrite b => exact .ite (.fault .modeMisuse) (.next rfl)
  | gpioRead => exact .ite (.fault .modeMisuse) (.next rfl)
  | clkReset => exact .next rfl
  | clkElapsed => exact .next rfl
  | delayMs n => exact .next rfl
  | delayUs n => exact .next rfl
  | classify n => exact .next rfl
  | checksum => exact .next rfl
  | storePublish => exact .next rfl
  | storeRead => exact .next rfl
  | reading => exact .next rfl
  | status => exact .next rfl

/-- An instruction that answers a next state keeps the setting. -/
theorem exec_setting {i : Instr} {s t : State} (h : exec i s = .next t) : t.setting = s.setting :=
  (h ▸ exec_keepsSetting i s).setting_eq

/-- After the inputs are sampled, a step keeps the setting. -/
theorem step_setting {s t : State} (h : step s = .next t) : t.setting = s.beginStep.setting := by
  obtain ⟨_, _, _, -, -, hx⟩ | ⟨-, -, rfl⟩ | ⟨-, -, _, -, hx⟩ | ⟨-, _, _, -, -, -, hx⟩ | ⟨-, rfl⟩ := step_cases h
  case inl => exact exec_setting hx
  case inr.inl => rfl
  case inr.inr.inl => exact exec_setting hx
  case inr.inr.inr.inl => exact exec_setting hx
  case inr.inr.inr.inr => rfl

theorem step_params {s t : State} (h : step s = .next t) : t.params = s.params :=
  (congrArg Setting.params (step_setting h)).trans (beginStep_params s)

theorem step_view {s t : State} (h : step s = .next t) : t.view = s.view :=
  (congrArg Setting.view (step_setting h)).trans (beginStep_view s)

/-- Settles O11: a step samples its inputs and keeps the setting they leave, and sampling writes neither the
configuration nor the view. -/
theorem paramsNeverWritten : Obligations.ParamsNeverWritten :=
  fun _ _ h => ⟨step_params h, step_view h⟩

/-- A tick always has a meaning. -/
theorem tickAction_ne_refuse (t : State) (r : Refusal) : tickAction t ≠ .refuse r := by
  unfold tickAction
  repeat' split
  all_goals nofun

/-- Under an admitted configuration the next step has an action. -/
theorem nextAction_ne_refuse {s : State} (ha : admitted s.params = true) (r : Refusal) :
    nextAction s ≠ .refuse r := by
  unfold nextAction
  rw [if_pos ha]
  split
  · nofun
  · exact tickAction_ne_refuse s.beginStep r

/-- A code that is no instruction stops for another reason than the configuration. -/
theorem decodeStop_ne_badConfig (e : DecodeError) : decodeStop e ≠ .refused .badConfig := by
  cases e <;> nofun

theorem issue_ne_badConfig (c : Code) (t : State) : issue c t ≠ .refused .badConfig := by
  cases hc : decode c with
  | ok i => rw [issue_ok hc]; exact (exec_keepsSetting i t).ne_refused .badConfig
  | error e => rw [issue_error hc]; exact decodeStop_ne_badConfig e

/-- Under an admitted configuration no step is refused with BadConfig. -/
theorem step_ne_badConfig {s : State} (ha : admitted s.params = true) : step s ≠ .refused .badConfig := by
  unfold step
  split
  case h_1 r hr => exact absurd hr (nextAction_ne_refuse ha r)
  case h_2 => nofun
  case h_3 => nofun
  case h_4 c _ => exact issue_ne_badConfig c s.beginStep

/-- Settles O10: a configuration that is not admitted refuses every step, and under an admitted one no stop is
BadConfig. -/
theorem badConfigRefused : Obligations.BadConfigRefused := by
  intro s
  rw [← admitted_iff]
  exact ⟨fun h ha => step_ne_badConfig ha h, step_badConfig⟩

end Sys2Proof.Machine

/-! # The statements of 10_state.md

`ArmStep`, `CommandStep` and `StepKind` say once everything a step that answers a next state can do; what changes
`valid`, `outcome`, `dir` and `clk` is read off them. The invariant is kept in the form of `StageAt`, one condition for
each code of `st`. The noninterference statements compare two runs of `exec`, arm by arm, and lift them to `step`. -/

namespace Sys2Proof.Machine

/-! What a step can do -/

/-- Everything a state arm can do to a state whose inputs have been sampled: one case for each branch of each arm,
the four bounded waits taken together. -/
inductive ArmStep (s : State) : State → Prop
  | idleStays (hst : s.st = stIdle) (hgo : s.pins.go = 0#1) : ArmStep s s
  | transactionStarts (hst : s.st = stIdle) (hgo : s.pins.go = 1#1) : ArmStep s s.startTransaction
  | startLowCounts (hst : s.st = stStartLow) (hn : s.dly.toNat + 1 ≠ s.params.tStartLow) : ArmStep s s.countDelay
  | startLowEnds (hst : s.st = stStartLow) (hn : s.dly.toNat + 1 = s.params.tStartLow) :
      ArmStep s { s with drv := 1#1, dly := 0#32, st := stStartHigh }
  | startHighCounts (hst : s.st = stStartHigh) (hn : s.dly.toNat + 1 ≠ s.params.tStartHigh) :
      ArmStep s s.countDelay
  | startHighEnds (hst : s.st = stStartHigh) (hn : s.dly.toNat + 1 = s.params.tStartHigh) :
      ArmStep s { s with dir := 0#1, clk := 0#32, dly := 0#32, st := stAwaitRespLow }
  | waitEnds {w : Wait} (hw : w ∈ waits s.params) (hst : s.st = w.code) (hl : s.pins.line = w.want) :
      ArmStep s { s with clk := 0#32, st := w.next }
  | waitAborts {w : Wait} (hw : w ∈ waits s.params) (hst : s.st = w.code) (hl : s.pins.line ≠ w.want)
      (hn : w.limit = some (satInc s.clk).toNat) : ArmStep s (s.abort w.out)
  | waitCounts {w : Wait} (hw : w ∈ waits s.params) (hst : s.st = w.code) (hl : s.pins.line ≠ w.want)
      (hn : w.limit ≠ some (satInc s.clk).toNat) : ArmStep s { s with clk := satInc s.clk }
  | pulseEnds (hst : s.st = stBitMeasure) (hl : s.pins.line = 0#1) (h : s.bi.toNat / 8 < 5) :
      ArmStep s (s.appendBit (satInc s.clk).toNat ⟨s.bi.toNat / 8, h⟩)
  | pulseAborts (hst : s.st = stBitMeasure) (hl : s.pins.line = 1#1)
      (hn : s.params.bitTimeout = some (satInc s.clk).toNat) : ArmStep s (s.abort outcomeBitTimeout)
  | pulseCounts (hst : s.st = stBitMeasure) (hl : s.pins.line = 1#1)
      (hn : s.params.bitTimeout ≠ some (satInc s.clk).toNat) : ArmStep s { s with clk := satInc s.clk }
  | checkAccepts (hst : s.st = stChecksumVerify) (hc : checksumResult s.frame = outcomeAccepted) :
      ArmStep s { s with st := stPublish }
  | checkRejects (hst : s.st = stChecksumVerify) (hc : checksumResult s.frame ≠ outcomeAccepted) :
      ArmStep s (s.abort (checksumResult s.frame))
  | publishes (hst : s.st = stPublish) :
      ArmStep s { s.storePublish with outcome := outcomeAccepted, dly := 0#32, st := stCooldown }
  | cooldownCounts (hst : s.st = stCooldown) (hn : s.dly.toNat + 1 ≠ s.params.tCooldown) : ArmStep s s.countDelay
  | cooldownEnds (hst : s.st = stCooldown) (hn : s.dly.toNat + 1 = s.params.tCooldown) : ArmStep s s.returnToIdle

/-- Everything a command can do to a state whose inputs have been sampled. -/
inductive CommandStep (s : State) : State → Prop
  | setsDirection (b p : Bit) : CommandStep s (s.tickClock.setDirection b p)
  | writesLine (b : Bit) (hdir : s.dir = 1#1) : CommandStep s { s.tickClock with drv := b }
  | resetsClock : CommandStep s { s with clk := 0#32 }
  | occupies (n : Nat) : CommandStep s (s.tickClock.occupy n)
  | publishesStore : CommandStep s s.tickClock.storePublish
  | responds (r : Response) : CommandStep s (s.tickClock.respond r)

/-- Everything a step can be that answers a next state. -/
inductive StepKind (s : State) : State → Prop
  | read (ht : ¬ s.atTick) (r : Response) : StepKind s (s.beginStep.respond r)
  | reset (hb : s.atBlockTick) (hr : s.beginStep.pins.rst = 1#1) : StepKind s s.beginStep.resetArm
  | arm {t : State} (hb : s.atBlockTick) (hr : s.beginStep.pins.rst = 0#1) (h : ArmStep s.beginStep t) : StepKind s t
  | command {t : State} (hp : s.atPrimitiveTick) (h : CommandStep s.beginStep t) : StepKind s t
  | quiet (hp : s.atPrimitiveTick) : StepKind s s.beginStep.quietTick

/-- The outcome of `if`, taken apart at its two branches. -/
theorem ite_next {c : Prop} [Decidable c] {a b : Host.Outcome State Fault Refusal} {t : State}
    (h : (if c then a else b) = .next t) : (c ∧ a = .next t) ∨ (¬ c ∧ b = .next t) := by
  split at h
  · exact .inl ⟨‹_›, h⟩
  · exact .inr ⟨‹_›, h⟩

/-- The four bounded waits, one by one. -/
theorem waits_cases {p : Params} {w : Wait} (hw : w ∈ waits p) :
    w = ⟨.awaitRespLow, 3#4, 0#1, some p.respTimeout, 4#4, 2#3⟩ ∨
    w = ⟨.awaitRespHigh, 4#4, 1#1, some p.respTimeout, 5#4, 2#3⟩ ∨
    w = ⟨.bitSync, 5#4, 0#1, p.bitTimeout, 6#4, 5#3⟩ ∨
    w = ⟨.bitWaitHigh, 6#4, 1#1, p.bitTimeout, 7#4, 5#3⟩ := by
  simpa only [waits, List.mem_cons, List.not_mem_nil, or_false] using hw

/-- A bounded wait of a state that is in it. -/
theorem ArmStep.await {s : State} {w : Wait} (hw : w ∈ waits s.params) (hst : s.st = w.code) :
    ArmStep s (s.await w.want w.limit w.next w.out) := by
  obtain ⟨hl, e⟩ | ⟨hl, hn, e⟩ | ⟨hl, hn, e⟩ := await_cases s w.want w.limit w.next w.out <;> rw [e]
  · exact .waitEnds hw hst hl
  · exact .waitAborts hw hst hl hn
  · exact .waitCounts hw hst hl hn

theorem execBitMeasure_armStep {s t : State} (hst : s.st = stBitMeasure) (h : execBitMeasure s = .next t) :
    ArmStep s t := by
  obtain ⟨hl, h⟩ | ⟨hl, h⟩ := ite_next h
  · split at h
    · cases h; exact .pulseEnds hst hl ‹_›
    · cases h
  · obtain ⟨hn, h⟩ | ⟨hn, h⟩ := ite_next h <;> cases h
    · exact .pulseAborts hst (bit_ne_zero.1 hl) hn
    · exact .pulseCounts hst (bit_ne_zero.1 hl) hn

/-- Every arm of a state code is in the list. -/
theorem exec_armStep {i : Instr} {s t : State} (hd : decodeState s.st = .ok i) (h : exec i s = .next t) :
    ArmStep s t := by
  obtain ⟨hst, rfl⟩ | ⟨hst, rfl⟩ | ⟨hst, rfl⟩ | ⟨hst, rfl⟩ | ⟨hst, rfl⟩ | ⟨hst, rfl⟩ | ⟨hst, rfl⟩ | ⟨hst, rfl⟩ |
    ⟨hst, rfl⟩ | ⟨hst, rfl⟩ | ⟨hst, rfl⟩ := decodeState_cases hd
  · -- IDLE
    obtain ⟨hgo, h⟩ | ⟨hgo, h⟩ := ite_next h <;> cases h
    · exact .transactionStarts hst hgo
    · exact .idleStays hst (bit_ne_one.1 hgo)
  · -- START_LOW
    obtain ⟨hn, h⟩ | ⟨hn, h⟩ := ite_next h <;> rw [holdDone_iff] at hn <;> cases h
    · exact .startLowEnds hst hn
    · exact .startLowCounts hst hn
  · -- START_HIGH
    obtain ⟨hn, h⟩ | ⟨hn, h⟩ := ite_next h <;> rw [holdDone_iff] at hn <;> cases h
    · exact .startHighEnds hst hn
    · exact .startHighCounts hst hn
  · -- AWAIT_RESP_LOW
    cases h; exact (ArmStep.await (.head _) hst :)
  · -- AWAIT_RESP_HIGH
    cases h; exact (ArmStep.await (.tail _ (.head _)) hst :)
  · -- BIT_SYNC
    cases h; exact (ArmStep.await (.tail _ (.tail _ (.head _))) hst :)
  · -- BIT_WAIT_HIGH
    cases h; exact (ArmStep.await (.tail _ (.tail _ (.tail _ (.head _)))) hst :)
  · -- BIT_MEASURE
    exact execBitMeasure_armStep hst h
  · -- CHECKSUM_VERIFY
    obtain ⟨hc, h⟩ | ⟨hc, h⟩ := ite_next h <;> cases h
    · exact .checkAccepts hst hc
    · exact .checkRejects hst hc
  · -- PUBLISH
    cases h; exact .publishes hst
  · -- COOLDOWN
    obtain ⟨hn, h⟩ | ⟨hn, h⟩ := ite_next h <;> rw [holdDone_iff] at hn <;> cases h
    · exact .cooldownEnds hst hn
    · exact .cooldownCounts hst hn

/-- Every command is in the list. -/
theorem exec_commandStep {i : Instr} {w : Word} {s t : State} (hd : decodeCommand w = .ok i)
    (h : exec i s = .next t) : CommandStep s t := by
  obtain ⟨b, p, rfl⟩ | ⟨b, rfl⟩ | rfl | rfl | rfl | ⟨n, rfl⟩ | ⟨n, rfl⟩ | ⟨n, rfl⟩ | rfl | rfl | rfl :=
    decodeCommand_cases hd
  · cases h; exact .setsDirection b p
  · -- GPIO_WRITE
    obtain ⟨-, h⟩ | ⟨hdir, h⟩ := ite_next h <;> cases h
    exact .writesLine b (bit_ne_zero.1 hdir)
  · -- GPIO_READ
    obtain ⟨-, h⟩ | ⟨-, h⟩ := ite_next h <;> cases h
    exact .responds _
  · cases h; exact .resetsClock
  · cases h; exact .responds _
  · cases h; exact .occupies _
  · cases h; exact .occupies _
  · cases h; exact .responds _
  · cases h; exact .responds _
  · cases h; exact .publishesStore
  · cases h; exact .responds _

/-- A reader's read is a response and no more. -/
theorem exec_read {i : Instr} {a : PortAccess} {s t : State} (hd : decodePort a = .ok i) (h : exec i s = .next t) :
    ∃ r, t = s.respond r := by
  obtain ⟨-, rfl⟩ | ⟨-, rfl⟩ := decodePort_cases hd <;> cases h <;> exact ⟨_, rfl⟩

/-- Every step that answers a next state is of one of the five kinds. -/
theorem step_kind {s t : State} (h : step s = .next t) : StepKind s t := by
  obtain ⟨a, rest, i, he, hd, hx⟩ | ⟨hb, hr, rfl⟩ | ⟨hb, hr, i, hd, hx⟩ | ⟨hp, w, i, -, -, hd, hx⟩ | ⟨hp, rfl⟩ :=
    step_cases h
  · obtain ⟨r, rfl⟩ := exec_read hd hx
    exact .read (fun ht => ht a rest he) r
  · exact .reset hb hr
  · exact .arm hb hr (exec_armStep (by rw [beginStep_st]; exact hd) hx)
  · exact .command hp (exec_commandStep hd hx)
  · exact .quiet hp

/-! The step and the reset values -/

/-- Settles O6: in each of the three cases the step issues that code, and sampling is `beginStep`. -/
theorem stepRunsDecoded : Obligations.StepRunsDecoded := by
  refine ⟨fun s i hb hr hd => ?_, fun s w i hp hbusy hc hd => ?_, fun s a rest i ha he hd => ?_,
    fun s p rest he => ?_, fun s => ?_⟩
  · rw [step_block hb hr, issue_ok hd]
  · rw [step_command hp hbusy hc, issue_ok hd]
  · rw [step_access ha he, issue_ok hd, beginStep_access he]
  · rw [beginStep_tick he]; exact ⟨State.latch_pins .., State.latch_events ..⟩
  · exact ⟨beginStep_regs s, beginStep_params s, beginStep_view s, beginStep_busy s, beginStep_resp s⟩

/-- Settles O7: the tick is the reset arm, whose writes are R37's values and the draw. -/
theorem resetArmWrites : Obligations.ResetArmWrites :=
  fun s hb hr => ⟨s.beginStep.resetArm, Config.drvDraw s.beginStep.drawKey, step_reset hb hr, rfl⟩

/-- Settles O9: the values written out in State.reset. -/
theorem resetStateValues : Obligations.ResetStateValues := by
  unfold Obligations.ResetStateValues
  decide

/-! What changes `valid`, `outcome`, `clk` and `dir` -/

@[simp] theorem State.setDirection_valid (s : State) (b p : Bit) : (s.setDirection b p).valid = s.valid := by
  unfold State.setDirection; split <;> rfl

@[simp] theorem State.setDirection_outcome (s : State) (b p : Bit) : (s.setDirection b p).outcome = s.outcome := by
  unfold State.setDirection; split <;> rfl

@[simp] theorem State.setDirection_clk (s : State) (b p : Bit) : (s.setDirection b p).clk = s.clk := by
  unfold State.setDirection; split <;> rfl

section
variable {s t : State}

theorem ArmStep.valid_kept (h : ArmStep s t) (hv : s.valid = 1#1) : t.valid = 1#1 := by
  cases h with
  | publishes => rfl
  | _ => exact hv

theorem CommandStep.valid_kept (h : CommandStep s t) (hv : s.valid = 1#1) : t.valid = 1#1 := by
  cases h with
  | setsDirection b p => rw [State.setDirection_valid]; exact hv
  | publishesStore => rfl
  | _ => exact hv

theorem CommandStep.outcome_eq (h : CommandStep s t) : t.outcome = s.outcome := by
  cases h with
  | setsDirection b p => exact State.setDirection_outcome ..
  | _ => rfl

theorem ArmStep.clk_cases (h : ArmStep s t) : t.clk = s.clk ∨ t.clk = 0#32 ∨ t.clk = satInc s.clk := by
  cases h with
  | waitCounts | pulseCounts => exact .inr (.inr rfl)
  | transactionStarts | startHighEnds | waitEnds | waitAborts | pulseEnds | pulseAborts | checkRejects =>
    exact .inr (.inl rfl)
  | _ => exact .inl rfl

theorem CommandStep.clk_cases (h : CommandStep s t) : t.clk = 0#32 ∨ t.clk = satInc s.clk := by
  cases h with
  | setsDirection b p => exact .inr (State.setDirection_clk ..)
  | resetsClock => exact .inl rfl
  | _ => exact .inr rfl

end

/-- Settles O48: of the five kinds of step only the reset arm clears `valid`. -/
theorem validClearedOnlyByReset : Obligations.ValidClearedOnlyByReset := by
  intro s t h hs ht
  have hv : s.beginStep.valid = 1#1 := by rw [beginStep_valid, hs]
  have kept : t.valid ≠ 1#1 := bit_ne_one.2 ht
  cases step_kind h with
  | read _ r => exact absurd hv kept
  | reset hb hr => exact ⟨hb, hr⟩
  | arm _ _ h => exact absurd (h.valid_kept hv) kept
  | command _ h => exact absurd (h.valid_kept hv) kept
  | quiet => exact absurd hv kept

theorem ArmStep.outcome_writers {s t : State} (h : ArmStep s t) (hne : t.outcome ≠ s.outcome) :
    t.st = 10#4 ∧
    (s.st = 9#4 ∧ t.outcome = 1#3 ∨
     (s.st = 3#4 ∨ s.st = 4#4) ∧ t.outcome = 2#3 ∨
     s.st = 8#4 ∧ (t.outcome = 3#3 ∨ t.outcome = 4#3) ∨
     (s.st = 5#4 ∨ s.st = 6#4 ∨ s.st = 7#4) ∧ t.outcome = 5#3) := by
  cases h with
  | waitAborts hw hst =>
    refine ⟨rfl, ?_⟩
    obtain rfl | rfl | rfl | rfl := waits_cases hw <;> simp [hst]
  | pulseAborts hst => exact ⟨rfl, .inr (.inr (.inr ⟨.inr (.inr hst), rfl⟩))⟩
  | checkRejects hst hc =>
    refine ⟨rfl, .inr (.inr (.inl ⟨hst, ?_⟩))⟩
    obtain ⟨-, e⟩ | ⟨-, -, e⟩ | ⟨-, -, e⟩ := checksumResult_cases s.frame
    · exact .inl e
    · exact .inr e
    · exact absurd e hc
  | publishes hst => exact ⟨rfl, .inl ⟨hst, rfl⟩⟩
  | _ => exact absurd rfl hne

/-- Settles O49: besides reset only state arms write `outcome`, each of them on its way to COOLDOWN. -/
theorem outcomeWriters : Obligations.OutcomeWriters := by
  intro s t h hrst hne
  rw [← beginStep_outcome s] at hne
  cases step_kind h with
  | read => exact absurd rfl hne
  | reset hb hr => rw [hrst hb] at hr; exact absurd hr (by decide)
  | arm _ _ h => simpa using h.outcome_writers hne
  | command _ h => exact absurd h.outcome_eq hne
  | quiet => exact absurd rfl hne

/-- Settles O55: every count of the clock is `satInc`. -/
theorem clockNeverWraps : Obligations.ClockNeverWraps := by
  intro s t h
  have counts : t.clk = satInc s.beginStep.clk →
      t.clk = s.clk ∨ t.clk = 0#32 ∨ t.clk.toNat = min (s.clk.toNat + 1) (2 ^ 32 - 1) :=
    fun e => .inr (.inr (by rw [e, satInc_toNat, beginStep_clk]))
  cases step_kind h with
  | read => exact .inl (beginStep_clk s)
  | reset => exact .inr (.inl rfl)
  | arm _ _ h =>
    obtain e | e | e := h.clk_cases
    · exact .inl (e.trans (beginStep_clk s))
    · exact .inr (.inl e)
    · exact counts e
  | command _ h =>
    obtain e | e := h.clk_cases
    · exact .inr (.inl e)
    · exact counts e
  | quiet => exact counts rfl

theorem ArmStep.dir_set {s t : State} (h : ArmStep s t) (hs : s.dir = 0#1) (ht : t.dir = 1#1) :
    s.st = 0#4 ∧ t.st = 1#4 ∧ t.drv = 0#1 := by
  cases h with
  | transactionStarts hst => exact ⟨hst, rfl, rfl⟩
  | startHighEnds => exact absurd ht (bit_ne_one.2 rfl)
  | _ => exact absurd ht (bit_ne_one.2 hs)

theorem ArmStep.dir_cleared {s t : State} (h : ArmStep s t) (hs : s.dir = 1#1) (ht : t.dir = 0#1) :
    s.st = 2#4 ∧ t.st = 3#4 := by
  cases h with
  | transactionStarts => exact absurd ht (bit_ne_zero.2 rfl)
  | startHighEnds hst => exact ⟨hst, rfl⟩
  | _ => exact absurd ht (bit_ne_zero.2 hs)

/-- Settles O53: IDLE's start sets `dir`, the end of START_HIGH and the reset arm clear it, and no other block step
writes it. -/
theorem directionChanges : Obligations.DirectionChanges := by
  intro s t hv h
  rw [← beginStep_dir s, ← beginStep_st s]
  cases step_kind h with
  | read => exact ⟨fun hs ht => absurd ht (bit_ne_one.2 hs), fun hs ht => absurd ht (bit_ne_zero.2 hs)⟩
  | reset hb hr => exact ⟨fun _ ht => absurd ht (bit_ne_one.2 rfl), fun _ _ => .inr ⟨hb.2.2, hr⟩⟩
  | arm _ _ h => exact ⟨h.dir_set, fun hs ht => .inl (h.dir_cleared hs ht)⟩
  | command hp => rw [hp.2.1] at hv; cases hv
  | quiet hp => rw [hp.2.1] at hv; cases hv

/-! The invariant, code by code -/

/-- The clock is short of a wait's limit, if it has one. -/
def Within (limit : Option Nat) (c : Word) : Prop := ∀ l, limit = some l → c.toNat < l

/-- A wait's limit, if it has one, is a count that the configuration admits. -/
def LimitAdmitted (limit : Option Nat) : Prop := ∀ l, limit = some l → 1 ≤ l ∧ l < 2 ^ 32

theorem within_zero {limit : Option Nat} (ha : LimitAdmitted limit) : Within limit 0#32 :=
  fun l e => (ha l e).1

/-- A wait that has not timed out in this tick is still short of its limit. -/
theorem Within.satInc {limit : Option Nat} {c : Word} (ha : LimitAdmitted limit) (h : Within limit c)
    (hn : limit ≠ some (satInc c).toNat) : Within limit (satInc c) := by
  intro l e
  have hc := h l e
  have hl := (ha l e).2
  have hne : l ≠ (Machine.satInc c).toNat := fun e' => hn (e' ▸ e)
  rw [satInc_toNat] at hne ⊢
  omega

/-- What R39 says of a state whose code is `c`, beside the clauses that hold under every code. -/
def StageAt (s : State) (c : BitVec 4) : Prop :=
  match c.toNat with
  | 0 => s.dir = 0#1 ∧ s.clk = 0#32
  | 1 => s.dir = 1#1 ∧ s.bi = 0#6 ∧ s.dly.toNat < s.params.tStartLow
  | 2 => s.dir = 1#1 ∧ s.bi = 0#6 ∧ s.dly.toNat < s.params.tStartHigh
  | 3 => s.dir = 0#1 ∧ s.bi = 0#6 ∧ Within (some s.params.respTimeout) s.clk
  | 4 => s.dir = 0#1 ∧ s.bi = 0#6 ∧ Within (some s.params.respTimeout) s.clk
  | 5 => s.dir = 0#1 ∧ s.bi = 0#6 ∧ Within s.params.bitTimeout s.clk
  | 6 => s.dir = 0#1 ∧ s.bi.toNat < 40 ∧ Within s.params.bitTimeout s.clk
  | 7 => s.dir = 0#1 ∧ s.bi.toNat < 40 ∧ Within s.params.bitTimeout s.clk
  | 8 => s.dir = 0#1 ∧ s.bi.toNat = 40 ∧ s.clk = 0#32
  | 9 => s.dir = 0#1 ∧ s.bi.toNat = 40 ∧ s.clk = 0#32
  | 10 => s.dir = 0#1 ∧ s.dly.toNat < s.params.tCooldown ∧ s.clk = 0#32
  | _ => False

/-- The state codes that are not reserved (30_encoding.md R70). -/
theorem code_cases (c : BitVec 4) (h : c.toNat ≤ 10) :
    c = 0#4 ∨ c = 1#4 ∨ c = 2#4 ∨ c = 3#4 ∨ c = 4#4 ∨ c = 5#4 ∨ c = 6#4 ∨ c = 7#4 ∨ c = 8#4 ∨ c = 9#4 ∨
    c = 10#4 := by
  revert c; decide

theorem StageAt.stLegal {s : State} {c : BitVec 4} (h : StageAt s c) : c.toNat ≤ 10 := by
  unfold StageAt at h
  split at h
  case h_12 => exact h.elim
  all_goals omega

theorem StageAt.dirDriven {s : State} {c : BitVec 4} (h : StageAt s c) :
    s.dir = 1#1 ↔ c = stStartLow ∨ c = stStartHigh := by
  obtain rfl | rfl | rfl | rfl | rfl | rfl | rfl | rfl | rfl | rfl | rfl := code_cases c h.stLegal <;>
    obtain ⟨hdir, -⟩ := h <;> simp [hdir]

theorem StageAt.biFresh {s : State} {c : BitVec 4} (h : StageAt s c) (hc : 1 ≤ c.toNat ∧ c.toNat ≤ 5) :
    s.bi = 0#6 := by
  unfold StageAt at h
  split at h
  case h_2 | h_3 | h_4 | h_5 | h_6 => obtain ⟨-, hbi, -⟩ := h; exact hbi
  case h_12 => exact h.elim
  all_goals omega

/-- The invariant in the form its proof keeps: one condition for each code, a bounded bit index, and a store that is
all reset values until it is valid. -/
structure StageInv (s : State) : Prop where
  blockView : s.view = .block
  stage : StageAt s s.st
  biBound : s.bi.toNat ≤ 40
  storeFresh : s.valid = 0#1 → s.temp = 0#8 ∧ s.hum = 0#8 ∧ s.outcome ≠ 1#3

theorem StageInv.stageAt {s : State} {c : BitVec 4} (h : StageInv s) (e : s.st = c) : StageAt s c :=
  e ▸ h.stage

theorem StageInv.of_blockInv {s : State} (h : BlockInv s) : StageInv s := by
  obtain ⟨hview, hspec, hfresh⟩ := h
  obtain ⟨hlegal, hdir, hbi, hfull, hopen, hstore, hlow, hhigh, hcool, hresp, hbit, hclk⟩ := hspec
  refine ⟨hview, ?_, hbi, hstore⟩
  obtain h | h | h | h | h | h | h | h | h | h | h := code_cases s.st hlegal <;>
    simp_all [StageAt, Within, ← bit_ne_one]

theorem StageInv.specInvariants {s : State} (h : StageInv s) : SpecInvariants s where
  stLegal := h.stage.stLegal
  dirDriven := h.stage.dirDriven
  biBound := h.biBound
  biFull := by
    rintro (e | e) <;> obtain ⟨-, hbi, -⟩ := h.stageAt e <;> exact hbi
  biOpen := by
    rintro (e | e | e) <;> obtain ⟨-, hbi, -⟩ := h.stageAt e
    · rw [hbi]; decide
    · exact hbi
    · exact hbi
  storeFresh := h.storeFresh
  holdLow e := by
    obtain ⟨-, -, hdly⟩ := h.stageAt e; exact hdly
  holdHigh e := by
    obtain ⟨-, -, hdly⟩ := h.stageAt e; exact hdly
  holdCooldown e := by
    obtain ⟨-, hdly, -⟩ := h.stageAt e; exact hdly
  respClock := by
    rintro (e | e) <;> obtain ⟨-, -, hclk⟩ := h.stageAt e <;> exact hclk _ rfl
  bitClock limit el := by
    rintro (e | e | e) <;> obtain ⟨-, -, hclk⟩ := h.stageAt e <;> exact hclk limit el
  clockIdle := by
    rintro (e | e | e | e)
    · obtain ⟨-, hclk⟩ := h.stageAt e; exact hclk
    all_goals obtain ⟨-, -, hclk⟩ := h.stageAt e; exact hclk

theorem StageInv.blockInv {s : State} (h : StageInv s) : BlockInv s where
  blockView := h.blockView
  spec := h.specInvariants
  biFresh := h.stage.biFresh

/-! Every step keeps it -/

theorem respTimeout_admitted {p : Params} (ha : admittedConfig p) : LimitAdmitted (some p.respTimeout) := by
  obtain ⟨-, -, -, hresp, -, -⟩ := ha
  exact fun l e => Option.some.inj e ▸ hresp

theorem bitTimeout_admitted {p : Params} (ha : admittedConfig p) : LimitAdmitted p.bitTimeout := by
  obtain ⟨-, -, -, -, -, hbit⟩ := ha
  exact fun l e => ⟨(hbit l e).1, (hbit l e).2.1⟩

/-- The limit of every bounded wait is admitted with the configuration. -/
theorem waits_limitAdmitted {p : Params} (ha : admittedConfig p) {w : Wait} (hw : w ∈ waits p) :
    LimitAdmitted w.limit := by
  obtain rfl | rfl | rfl | rfl := waits_cases hw
  · exact respTimeout_admitted ha
  · exact respTimeout_admitted ha
  · exact bitTimeout_admitted ha
  · exact bitTimeout_admitted ha

/-- An abort meets COOLDOWN's condition once the line is released. -/
theorem StageAt.abort {s : State} (hT : 1 ≤ s.params.tCooldown) (hdir : s.dir = 0#1) (o : BitVec 3) :
    StageAt (s.abort o) (s.abort o).st := ⟨hdir, hT, rfl⟩

/-- The bounded waits keep the line released and their clock within their limit. -/
theorem StageAt.wait {s : State} {w : Wait} (hw : w ∈ waits s.params) (h : StageAt s w.code) :
    s.dir = 0#1 ∧ Within w.limit s.clk := by
  obtain rfl | rfl | rfl | rfl := waits_cases hw <;> obtain ⟨hdir, -, hclk⟩ := h <;> exact ⟨hdir, hclk⟩

/-- A wait's condition is kept by a clock that is still within its limit. -/
theorem StageAt.wait_clk {s : State} {w : Wait} (hw : w ∈ waits s.params) (h : StageAt s w.code) {c : Word}
    (hc : Within w.limit c) : StageAt { s with clk := c } w.code := by
  obtain rfl | rfl | rfl | rfl := waits_cases hw <;> obtain ⟨hdir, hbi, -⟩ := h <;> exact ⟨hdir, hbi, hc⟩

/-- The end of a wait meets the condition of the state after it. -/
theorem StageAt.wait_ends {s : State} {w : Wait} (ha : admittedConfig s.params) (hw : w ∈ waits s.params)
    (h : StageAt s w.code) : StageAt { s with clk := 0#32, st := w.next } w.next := by
  have hresp : Within (some s.params.respTimeout) 0#32 := within_zero (respTimeout_admitted ha)
  have hbit : Within s.params.bitTimeout 0#32 := within_zero (bitTimeout_admitted ha)
  obtain rfl | rfl | rfl | rfl := waits_cases hw <;> obtain ⟨hdir, hbi, -⟩ := h
  · exact ⟨hdir, hbi, hresp⟩
  · exact ⟨hdir, hbi, hbit⟩
  · exact ⟨hdir, by rw [hbi]; decide, hbit⟩
  · exact ⟨hdir, hbi, hbit⟩

/-- A hold that is not over counts on short of its end. -/
theorem countDelay_lt {s : State} {n : Nat} (hn : n < 2 ^ 32) (h : s.dly.toNat < n) (hne : s.dly.toNat + 1 ≠ n) :
    s.countDelay.dly.toNat < n := by
  rw [countDelay_dly_toNat s (by omega)]
  omega

/-- Below 40 the 6-bit index counts a bit without wrapping. -/
theorem appendBit_bi_toNat {s : State} (n : Nat) (j : Fin 5) (h : s.bi.toNat < 40) :
    (s.appendBit n j).bi.toNat = s.bi.toNat + 1 := by
  rw [State.appendBit_bi]; bv_omega

/-- The end of a pulse meets the condition of the next pulse's wait or, after the fortieth, of CHECKSUM_VERIFY. -/
theorem StageAt.appendBit {s : State} (ha : admittedConfig s.params) (hdir : s.dir = 0#1) (hbi : s.bi.toNat < 40)
    (n : Nat) (j : Fin 5) : StageAt (s.appendBit n j) (s.appendBit n j).st := by
  have hnext := appendBit_bi_toNat n j hbi
  rw [State.appendBit_st]
  split
  case isTrue h => exact ⟨hdir, by rw [hnext, h]; rfl, rfl⟩
  case isFalse h =>
    have hne : s.bi.toNat ≠ 39 := fun e => h (BitVec.eq_of_toNat_eq e)
    exact ⟨hdir, by omega, within_zero (bitTimeout_admitted ha)⟩

/-- Every arm meets the condition of the code it leaves in `st`. -/
theorem ArmStep.stage {s t : State} (ha : admittedConfig s.params) (h : ArmStep s t) (hs : StageAt s s.st) :
    StageAt t t.st := by
  have ⟨hlow, hhigh, hcool, _⟩ := ha
  cases h with
  | idleStays => exact hs
  | transactionStarts => exact ⟨rfl, rfl, hlow.1⟩
  | startLowCounts hst hn =>
    rw [hst] at hs
    obtain ⟨hdir, hbi, hdly⟩ := hs
    rw [State.countDelay_st, hst]
    exact ⟨hdir, hbi, countDelay_lt hlow.2 hdly hn⟩
  | startLowEnds hst =>
    rw [hst] at hs
    obtain ⟨hdir, hbi, -⟩ := hs
    exact ⟨hdir, hbi, hhigh.1⟩
  | startHighCounts hst hn =>
    rw [hst] at hs
    obtain ⟨hdir, hbi, hdly⟩ := hs
    rw [State.countDelay_st, hst]
    exact ⟨hdir, hbi, countDelay_lt hhigh.2 hdly hn⟩
  | startHighEnds hst =>
    rw [hst] at hs
    obtain ⟨-, hbi, -⟩ := hs
    exact ⟨rfl, hbi, within_zero (respTimeout_admitted ha)⟩
  | waitEnds hw hst => exact (hst ▸ hs).wait_ends ha hw
  | waitAborts hw hst => exact .abort hcool.1 ((hst ▸ hs).wait hw).1 _
  | waitCounts hw hst _ hn =>
    rw [hst] at hs
    have hclk := (hs.wait hw).2.satInc (waits_limitAdmitted ha hw) hn
    rw [hst]
    exact hs.wait_clk hw hclk
  | pulseEnds hst =>
    rw [hst] at hs
    obtain ⟨hdir, hbi, -⟩ := hs
    exact .appendBit ha hdir hbi _ _
  | pulseAborts hst =>
    rw [hst] at hs
    exact .abort hcool.1 hs.1 _
  | pulseCounts hst _ hn =>
    rw [hst] at hs
    obtain ⟨hdir, hbi, hclk⟩ := hs
    rw [hst]
    exact ⟨hdir, hbi, hclk.satInc (bitTimeout_admitted ha) hn⟩
  | checkAccepts hst =>
    rw [hst] at hs
    exact hs
  | checkRejects hst =>
    rw [hst] at hs
    exact .abort hcool.1 hs.1 _
  | publishes hst =>
    rw [hst] at hs
    obtain ⟨hdir, -, hclk⟩ := hs
    exact ⟨hdir, hcool.1, hclk⟩
  | cooldownCounts hst hn =>
    rw [hst] at hs
    obtain ⟨hdir, hdly, hclk⟩ := hs
    rw [State.countDelay_st, hst]
    exact ⟨hdir, countDelay_lt hcool.2 hdly hn, hclk⟩
  | cooldownEnds hst =>
    rw [hst] at hs
    obtain ⟨hdir, -, hclk⟩ := hs
    exact ⟨hdir, hclk⟩

theorem ArmStep.biBound {s t : State} (h : ArmStep s t) (hs : StageAt s s.st) (hbi : s.bi.toNat ≤ 40) :
    t.bi.toNat ≤ 40 := by
  cases h with
  | transactionStarts => exact Nat.zero_le 40
  | pulseEnds hst =>
    rw [hst] at hs
    obtain ⟨-, hlt, -⟩ := hs
    rw [appendBit_bi_toNat _ _ hlt]
    exact hlt
  | _ => exact hbi

/-- No abort's outcome is the one of a publication. -/
theorem waits_out_ne {p : Params} {w : Wait} (hw : w ∈ waits p) : w.out ≠ 1#3 := by
  obtain rfl | rfl | rfl | rfl := waits_cases hw <;> simp

theorem ArmStep.storeFresh {s t : State} (h : ArmStep s t)
    (hs : s.valid = 0#1 → s.temp = 0#8 ∧ s.hum = 0#8 ∧ s.outcome ≠ 1#3) :
    t.valid = 0#1 → t.temp = 0#8 ∧ t.hum = 0#8 ∧ t.outcome ≠ 1#3 := by
  have aborts {o : BitVec 3} (ho : o ≠ 1#3) (hv : s.valid = 0#1) : s.temp = 0#8 ∧ s.hum = 0#8 ∧ o ≠ 1#3 := by
    obtain ⟨htemp, hhum, -⟩ := hs hv
    exact ⟨htemp, hhum, ho⟩
  cases h with
  | waitAborts hw => exact aborts (waits_out_ne hw)
  | pulseAborts => exact aborts (by simp)
  | checkRejects _ hc => exact aborts hc
  | publishes => exact fun hv => absurd hv (bit_ne_zero.2 rfl)
  | _ => exact hs

theorem StageInv.armStep {s t : State} (ha : admittedConfig s.params) (hs : StageInv s) (h : ArmStep s t)
    (hview : t.view = .block) : StageInv t where
  blockView := hview
  stage := h.stage ha hs.stage
  biBound := h.biBound hs.stage hs.biBound
  storeFresh := h.storeFresh hs.storeFresh

theorem StageInv.resetArm {s : State} (hview : s.view = .block) : StageInv s.resetArm where
  blockView := hview
  stage := ⟨rfl, rfl⟩
  biBound := Nat.zero_le 40
  storeFresh := fun _ => ⟨rfl, rfl, by simp⟩

theorem StageInv.respond {s : State} (hs : StageInv s) (r : Response) : StageInv (s.respond r) :=
  { hs with }

theorem StageInv.beginStep {s : State} (hs : StageInv s) : StageInv s.beginStep := by
  obtain ⟨hview, hstage, hbi, hstore⟩ := hs
  unfold State.beginStep
  split <;> exact ⟨hview, hstage, hbi, hstore⟩

theorem StageInv.step {s t : State} (hs : StageInv s) (h : step s = .next t) : StageInv t := by
  have hb := hs.beginStep
  cases step_kind h with
  | read _ r => exact hb.respond r
  | reset => exact .resetArm hb.blockView
  | arm htick _ h =>
    have ha : admittedConfig s.beginStep.params := by rw [beginStep_params, ← admitted_iff]; exact htick.1
    exact hb.armStep ha h ((step_view ‹_›).trans hs.blockView)
  | command hp => exact absurd hp.2.1 (by rw [hs.blockView]; nofun)
  | quiet hp => exact absurd hp.2.1 (by rw [hs.blockView]; nofun)

/-- Settles O12: every step keeps the invariant in its code-by-code form. -/
theorem stepKeepsInv : Obligations.StepKeepsInv :=
  fun _ _ hs h => ((StageInv.of_blockInv hs).step h).blockInv

/-- Settles O13: State.reset is in IDLE, the line released and the clock zero. -/
theorem resetMeetsInv : Obligations.ResetMeetsInv := by
  intro p evs _
  apply StageInv.blockInv
  exact ⟨rfl, ⟨rfl, rfl⟩, Nat.zero_le 40, fun _ => ⟨rfl, rfl, by simp [State.reset]⟩⟩

/-- What every step keeps holds after any number of steps. -/
theorem steps_keep {P : State → Prop} (keep : ∀ s t, P s → step s = .next t → P t) {n : Nat} {s t : State}
    (hs : P s) (h : steps n s = .next t) : P t := by
  induction n generalizing s with
  | zero => cases h; exact hs
  | succ n ih =>
    simp only [steps] at h
    split at h
    case h_1 u hu => exact ih (keep s u hs hu) h
    case h_2 => cases h
    case h_3 => cases h

/-- Settles O14: the invariant holds at reset and every step keeps it. -/
theorem reachableInvariants : Obligations.ReachableInvariants :=
  fun p evs _ _ ha h => (steps_keep stepKeepsInv (resetMeetsInv p evs ha) h).spec

/-! Noninterference: two runs of one instruction -/

section
variable {α : Type} {f : State → α}

/-- Two choices on one condition are seen alike when their branches are. -/
theorem mapNext_ite {c : Prop} [Decidable c] {a b a' b' : Host.Outcome State Fault Refusal}
    (ha : mapNext f a = mapNext f a') (hb : mapNext f b = mapNext f b') :
    mapNext f (if c then a else b) = mapNext f (if c then a' else b') := by
  split
  · exact ha
  · exact hb

theorem mapNext_next_congr {s t : State} (h : f s = f t) : mapNext f (.next s) = mapNext f (.next t) :=
  congrArg Host.Outcome.next h

/-- Two bounded waits with one sample and one clock are seen alike when their three ways out are. -/
theorem await_congr {s s' : State} (hl : s'.pins.line = s.pins.line) (hc : s'.clk = s.clk)
    {want : Bit} {limit : Option Nat} {next : BitVec 4} {o : BitVec 3}
    (hend : f { s' with clk := 0#32, st := next } = f { s with clk := 0#32, st := next })
    (habort : f (s'.abort o) = f (s.abort o))
    (hcount : f { s' with clk := satInc s'.clk } = f { s with clk := satInc s.clk }) :
    mapNext f (.next (s'.await want limit next o)) = mapNext f (.next (s.await want limit next o)) := by
  apply mapNext_next_congr
  unfold State.await
  rw [hl, hc] at *
  split
  · exact hend
  · split
    · exact habort
    · exact hcount

/-- Two steps that do the same action are seen alike when the action's results are. -/
theorem mapNext_step_congr {s s' : State} (ha : nextAction s' = nextAction s)
    (hreset : f s'.beginStep.resetArm = f s.beginStep.resetArm)
    (hquiet : f s'.beginStep.quietTick = f s.beginStep.quietTick)
    (hexec : ∀ c i, nextAction s = .issue c → decode c = .ok i →
      mapNext f (exec i s'.beginStep) = mapNext f (exec i s.beginStep)) :
    mapNext f (step s') = mapNext f (step s) := by
  unfold step
  rw [ha]
  split
  case h_1 => rfl
  case h_2 => exact mapNext_next_congr hreset
  case h_3 => exact mapNext_next_congr hquiet
  case h_4 c hc =>
    cases hd : decode c with
    | ok i => rw [issue_ok hd, issue_ok hd]; exact hexec c i hc hd
    | error e => rw [issue_error hd, issue_error hd]

end

/-- What is seen of a state by one who cannot see `outcome`. -/
def State.hideOutcome (s : State) : State := { s with outcome := 0#3 }

/-- No instruction but STATUS shows `outcome`, arm by arm. -/
theorem exec_hideOutcome {i : Instr} (hi : i ≠ .status) (s : State) (v : BitVec 3) :
    mapNext State.hideOutcome (exec i { s with outcome := v }) = mapNext State.hideOutcome (exec i s) := by
  have wait (want : Bit) (limit : Option Nat) (next : BitVec 4) (o : BitVec 3) :
      mapNext State.hideOutcome (.next (State.await { s with outcome := v } want limit next o)) =
      mapNext State.hideOutcome (.next (s.await want limit next o)) := by
    apply await_congr <;> rfl
  cases i with
  | idle => exact mapNext_ite rfl rfl
  | startLow => exact mapNext_ite rfl rfl
  | startHigh => exact mapNext_ite rfl rfl
  | awaitRespLow => exact wait ..
  | awaitRespHigh => exact wait ..
  | bitSync => exact wait ..
  | bitWaitHigh => exact wait ..
  | bitMeasure =>
    refine mapNext_ite ?_ (mapNext_ite rfl rfl)
    split <;> rfl
  | checksumVerify => exact mapNext_ite rfl rfl
  | publish => rfl
  | cooldown => exact mapNext_ite rfl rfl
  | gpioSetDir b p =>
    apply mapNext_next_congr
    unfold State.setDirection
    split <;> rfl
  | gpioWrite b => exact mapNext_ite rfl rfl
  | gpioRead => exact mapNext_ite rfl rfl
  | clkReset => rfl
  | clkElapsed => rfl
  | delayMs n => rfl
  | delayUs n => rfl
  | classify n => rfl
  | checksum => rfl
  | storePublish => rfl
  | storeRead => rfl
  | reading => rfl
  | status => exact absurd rfl hi

/-- Settles O50: `exec_hideOutcome` is the statement, with its observer named. -/
theorem outcomeNeverRead : Obligations.OutcomeNeverRead :=
  fun _ s v hi => exec_hideOutcome hi s v

/-- The level of a line that is not driven is not seen. -/
theorem hideDrv_drv {s : State} (hdir : s.dir = 0#1) (x : Bit) : State.hideDrv { s with drv := x } = s.hideDrv := by
  have hd : ¬ s.dir = 1#1 := bit_ne_one.2 hdir
  simp only [State.hideDrv, if_neg hd]

/-- No instruction shows the level of a released line, arm by arm. -/
theorem exec_hideDrv (i : Instr) {s : State} (hdir : s.dir = 0#1) (x : Bit) :
    mapNext State.hideDrv (exec i { s with drv := x }) = mapNext State.hideDrv (exec i s) := by
  have hidden {t t' : State} (ht : t.dir = 0#1) (e : t' = { t with drv := x }) : t'.hideDrv = t.hideDrv :=
    e ▸ hideDrv_drv ht x
  have same {t t' : State} (ht : t.dir = 0#1) (e : t' = { t with drv := x }) :
      mapNext State.hideDrv (.next t') = mapNext State.hideDrv (.next t) :=
    mapNext_next_congr (hidden ht e)
  have wait (want : Bit) (limit : Option Nat) (next : BitVec 4) (o : BitVec 3) :
      mapNext State.hideDrv (.next (State.await { s with drv := x } want limit next o)) =
      mapNext State.hideDrv (.next (s.await want limit next o)) := by
    apply await_congr
    case hl => rfl
    case hc => rfl
    all_goals exact hidden hdir rfl
  cases i with
  | idle => exact mapNext_ite rfl (same hdir rfl)
  | startLow => exact mapNext_ite rfl (same hdir rfl)
  | startHigh => exact mapNext_ite (same rfl rfl) (same hdir rfl)
  | awaitRespLow => exact wait ..
  | awaitRespHigh => exact wait ..
  | bitSync => exact wait ..
  | bitWaitHigh => exact wait ..
  | bitMeasure =>
    refine mapNext_ite ?_ (mapNext_ite (same hdir rfl) (same hdir rfl))
    split
    · exact same hdir rfl
    · rfl
  | checksumVerify => exact mapNext_ite (same hdir rfl) (same hdir rfl)
  | publish => exact same hdir rfl
  | cooldown => exact mapNext_ite (same hdir rfl) (same hdir rfl)
  | gpioSetDir b p =>
    apply mapNext_next_congr
    unfold State.setDirection
    split
    · rfl
    · exact hidden rfl rfl
  | gpioWrite b =>
    simp only [exec, execGpioWrite, if_pos hdir]
  | gpioRead => exact mapNext_ite rfl (same hdir rfl)
  | clkReset => exact same hdir rfl
  | clkElapsed => exact same hdir rfl
  | delayMs n => exact same hdir rfl
  | delayUs n => exact same hdir rfl
  | classify n => exact same hdir rfl
  | checksum => exact same hdir rfl
  | storePublish => exact same hdir rfl
  | storeRead => exact same hdir rfl
  | reading => exact same hdir rfl
  | status => exact same hdir rfl

theorem beginStep_withDrv (s : State) (x : Bit) :
    State.beginStep { s with drv := x } = { s.beginStep with drv := x } := by
  match he : s.events with
  | [] => rw [beginStep_nil he]; rfl
  | .tick p :: rest => rw [beginStep_tick he]; rfl
  | .access a :: rest => rw [beginStep_access he]; rfl

theorem nextAction_withDrv (s : State) (x : Bit) : nextAction { s with drv := x } = nextAction s := by
  unfold nextAction
  rw [beginStep_withDrv]
  rfl

/-- Settles O54: the released level selects no action, and no instruction shows it. -/
theorem releasedLevelUnobservable : Obligations.ReleasedLevelUnobservable := by
  intro s x hdir
  have hb : s.beginStep.dir = 0#1 := by rw [beginStep_dir, hdir]
  apply mapNext_step_congr (nextAction_withDrv s x) <;> rw [beginStep_withDrv]
  · rfl
  · exact hideDrv_drv (s := s.beginStep.quietTick) hb x
  · exact fun _ i _ _ => exec_hideDrv i hb x

/-- The arms of the codes below 3 and above 7 do not read the line. -/
theorem exec_line {i : Instr} {c : BitVec 4} (hc : c.toNat < 3 ∨ 7 < c.toNat) (hd : decodeState c = .ok i)
    (s : State) (x : Bit) :
    mapNext State.regs (exec i { s with pins := { s.pins with line := x } }) = mapNext State.regs (exec i s) := by
  obtain ⟨rfl, rfl⟩ | ⟨rfl, rfl⟩ | ⟨rfl, rfl⟩ | ⟨rfl, rfl⟩ | ⟨rfl, rfl⟩ | ⟨rfl, rfl⟩ | ⟨rfl, rfl⟩ | ⟨rfl, rfl⟩ |
    ⟨rfl, rfl⟩ | ⟨rfl, rfl⟩ | ⟨rfl, rfl⟩ := decodeState_cases hd
  · exact mapNext_ite rfl rfl
  · exact mapNext_ite rfl rfl
  · exact mapNext_ite rfl rfl
  iterate 5 exact absurd hc (by decide)
  · exact mapNext_ite rfl rfl
  · rfl
  · exact mapNext_ite rfl rfl

/-- A listed tick of the block view can issue the code of `st` only. -/
theorem nextAction_issue {s : State} {p : Pins} {rest : List Event} {c : Code} (hv : s.view = .block)
    (he : s.events = .tick p :: rest) (h : nextAction s = .issue c) : c = .state s.st := by
  unfold nextAction at h
  rw [he] at h
  simp only [tickAction, beginStep_view, hv, beginStep_st] at h
  split at h
  · split at h
    · cases h
    · exact (Action.issue.inj h).symm
  · cases h

/-- Settles O51: `L` selects no action, and the arms of these codes do not read it. -/
theorem lineIgnoredElsewhere : Obligations.LineIgnoredElsewhere := by
  intro s p x rest hv hst
  apply mapNext_step_congr
  · rfl
  · rfl
  · rfl
  · intro c i hc hd
    obtain rfl := nextAction_issue (s := { s with events := .tick p :: rest }) hv rfl hc
    exact exec_line hst hd (s.latch p rest) x

end Sys2Proof.Machine

/-! # The statements of 20_memory.md

The reader port's words come from Laws/Ops.lean, and the store's from the list of everything a step can do. The frame is
filled one pulse at a time: `steps_waitEnds` and `steps_pulseEnds`, over `steps_count`, run the phases of a pulse,
`steps_pulse` is the whole pulse, and `SpellsFirst k` says what the frame holds after `k` of them. -/

namespace Sys2Proof.Machine

/-! The reader port -/

theorem readingWord_eq (s : State) :
    s.readingWord = BitVec.ofNat 32 (s.hum.toNat + 2 ^ 8 * s.temp.toNat + 2 ^ 16 * s.valid.toNat) := by
  rw [← readingWord_toNat, BitVec.ofNat_toNat, BitVec.setWidth_eq]

theorem statusWord_eq (s : State) :
    s.statusWord = BitVec.ofNat 32 (s.st.toNat + 2 ^ 4 * s.outcome.toNat) := by
  rw [← statusWord_toNat, BitVec.ofNat_toNat, BitVec.setWidth_eq]

/-- Settles O42: the two words on exact numbers. -/
theorem portWords : Obligations.PortWords := by
  refine ⟨rfl, rfl, fun s => ⟨?_, ?_⟩⟩
  · rw [← readingWord_eq]; rfl
  · rw [← statusWord_eq]; rfl

/-- A read of another form is no instruction (20_memory.md R56). -/
theorem decode_portForm {offset : Word} {width : Nat}
    (h : ¬ (width = 4 ∧ (offset = 0x0#32 ∨ offset = 0x4#32))) :
    decode (.port (.read offset width)) = .error .portForm := by
  simp only [decode, decodePort]
  split_ifs with hw h0 h4
  · rfl
  · exact absurd ⟨not_not.1 hw, .inl h0⟩ h
  · exact absurd ⟨not_not.1 hw, .inr h4⟩ h
  · rfl

/-- A read at 0x0 or 0x4 is answered with that word, and does no more. -/
theorem step_reading {s : State} {rest : List Event} (ha : admitted s.params = true)
    (he : s.events = .access (.read 0x0#32 4) :: rest) :
    step s = .next (s.beginStep.respond (.word s.readingWord)) := by
  rw [step_access ha he, issue_ok (i := .reading) rfl, beginStep_access he]; rfl

theorem step_status {s : State} {rest : List Event} (ha : admitted s.params = true)
    (he : s.events = .access (.read 0x4#32 4) :: rest) :
    step s = .next (s.beginStep.respond (.word s.statusWord)) := by
  rw [step_access ha he, issue_ok (i := .status) rfl, beginStep_access he]; rfl

/-- The byte lanes of READING, little-endian (20_memory.md R56). -/
theorem portLane_reading (s : State) :
    s.portLane 0 = some s.hum ∧ s.portLane 1 = some s.temp ∧ s.portLane 2 = some (s.valid.setWidth 8) ∧
    s.portLane 3 = some 0#8 := by
  have := s.hum.isLt; have := s.temp.isLt; have := s.valid.isLt
  have lane {n : Nat} (hn : n < 4) {b : Byte} (h : s.readingWord.toNat / 2 ^ (8 * n) % 2 ^ 8 = b.toNat) :
      s.portLane n = some b := by
    rw [State.portLane, if_pos hn, Option.some.injEq]
    apply BitVec.eq_of_toNat_eq
    rw [BitVec.extractLsb'_toNat, Nat.shiftRight_eq_div_pow, h]
  refine ⟨lane (by decide) ?_, lane (by decide) ?_, lane (by decide) ?_, lane (by decide) ?_⟩ <;>
    rw [readingWord_toNat]
  · omega
  · omega
  · rw [BitVec.toNat_setWidth]; omega
  · rw [BitVec.toNat_ofNat]; omega

/-- Settles O43: the two reads are answered, any other is no instruction, and READING's digits are its lanes. -/
theorem portAdmitsTwoReads : Obligations.PortAdmitsTwoReads := by
  refine ⟨fun s offset width rest ha he => ?_, portLane_reading⟩
  split
  case isTrue h =>
    obtain ⟨rfl, rfl | rfl⟩ := h
    · exact ⟨_, step_reading ha he⟩
    · exact ⟨_, step_status ha he⟩
  case isFalse h =>
    rw [step_access ha he, issue_error (decode_portForm h)]; rfl

/-- Settles O44: a write is no instruction. -/
theorem portWritesRefused : Obligations.PortWritesRefused := by
  intro s offset width data rest ha he
  rw [step_access ha he, issue_error (e := .portWrite) rfl]; rfl

/-- Reads that all give the response `r` as long as the registers stand leave them standing, and `r` in `resp`. -/
theorem steps_reads {s : State} {a : PortAccess} {r : Response} {rest : List Event} {k : Nat}
    (answer : ∀ u rest', u.params = s.params → u.regs = s.regs → u.events = .access a :: rest' →
      step u = .next (u.beginStep.respond r))
    (he : s.events = List.replicate (k + 1) (.access a) ++ rest) :
    ∃ t, steps (k + 1) s = .next t ∧ t.regs = s.regs ∧ t.events = rest ∧ t.resp = some r := by
  have hregs : (s.beginStep.respond r).regs = s.regs := beginStep_regs s
  induction k generalizing s with
  | zero =>
    have hevents : (s.beginStep.respond r).events = rest := congrArg State.events (beginStep_access he)
    exact ⟨_, (steps_one s).trans (answer s _ rfl rfl he), hregs, hevents, rfl⟩
  | succ k ih =>
    have hs := answer s _ rfl rfl he
    have hevents : (s.beginStep.respond r).events = List.replicate (k + 1) (.access a) ++ rest :=
      congrArg State.events (beginStep_access he)
    obtain ⟨t, ht, htr, hte, hresp⟩ := ih (s := s.beginStep.respond r)
      (fun u rest' hp hr => answer u rest' (hp.trans (beginStep_params s)) (hr.trans hregs)) hevents (beginStep_regs _)
    exact ⟨t, (steps_succ _ hs).trans ht, htr.trans hregs, hte, hresp⟩

/-- The port's words are functions of the registers. -/
theorem readingWord_congr {s u : State} (h : u.regs = s.regs) : u.readingWord = s.readingWord := by
  have hval := congrArg Regs.valid h; have htemp := congrArg Regs.temp h; have hhum := congrArg Regs.hum h
  simp only [State.regs_valid, State.regs_temp, State.regs_hum] at hval htemp hhum
  rw [State.readingWord, State.readingWord, hval, htemp, hhum]

theorem statusWord_congr {s u : State} (h : u.regs = s.regs) : u.statusWord = s.statusWord := by
  have hout := congrArg Regs.outcome h; have hst := congrArg Regs.st h
  simp only [State.regs_outcome, State.regs_st] at hout hst
  rw [State.statusWord, State.statusWord, hout, hst]

/-- Settles O45: every read finds the registers of the first, so that its word is the first's. -/
theorem readsAreIdempotent : Obligations.ReadsAreIdempotent := by
  intro s k rest ha
  refine ⟨steps_reads fun u rest' hp hr he => ?_, steps_reads fun u rest' hp hr he => ?_⟩
  · rw [step_reading (hp ▸ ha) he, readingWord_congr hr]
  · rw [step_status (hp ▸ ha) he, statusWord_congr hr]

/-! The store -/

/-- Of the state arms only PUBLISH writes the store. -/
theorem ArmStep.store_kept {s t : State} (h : ArmStep s t) (hst : s.st ≠ 9#4) :
    t.temp = s.temp ∧ t.hum = s.hum ∧ t.valid = s.valid := by
  cases h with
  | publishes h9 => exact absurd h9 hst
  | _ => exact ⟨rfl, rfl, rfl⟩

/-- Settles O46: a read, and every arm but PUBLISH's, keeps the store. -/
theorem storeWrittenOnlyByPublish : Obligations.StoreWrittenOnlyByPublish := by
  intro s t hv h htick
  rw [← beginStep_temp s, ← beginStep_hum s, ← beginStep_valid s]
  cases step_kind h with
  | read => exact ⟨rfl, rfl, rfl⟩
  | reset hb hr => rw [(htick hb.2.2).1] at hr; exact absurd hr (by decide)
  | arm hb _ h => exact h.store_kept (by rw [beginStep_st]; exact (htick hb.2.2).2)
  | command hp => rw [hp.2.1] at hv; cases hv
  | quiet hp => rw [hp.2.1] at hv; cases hv

/-- A PUBLISH tick is PUBLISH's one commit (43_check_publish.md R163). -/
theorem step_publish {s : State} (hb : s.atBlockTick) (hr : s.beginStep.pins.rst = 0#1) (hst : s.st = 9#4) :
    step s = .next { s.beginStep.storePublish with outcome := outcomeAccepted, dly := 0#32, st := stCooldown } := by
  rw [step_block hb hr, hst, issue_ok (i := .publish) rfl]; rfl

/-- Under a configuration that is not admitted no step answers a next state. -/
theorem admitted_of_step {s t : State} (h : step s = .next t) : admitted s.params = true := by
  by_contra ha
  rw [step_badConfig ha] at h
  cases h

/-- Settles O47: PUBLISH commits all four fields in its tick, and O46 is the rest. -/
theorem publicationIsAtomic : Obligations.PublicationIsAtomic := by
  intro s t hv h hrst
  refine ⟨fun ht hst => ?_, fun hst => storeWrittenOnlyByPublish s t hv h fun ht => ⟨hrst ht, hst ht⟩⟩
  rw [step_publish ⟨admitted_of_step h, hv, ht⟩ (hrst ht) hst] at h
  cases h
  refine ⟨?_, ?_, rfl, rfl⟩
  · exact congrArg (·[2]) (beginStep_frame s)
  · exact congrArg (·[0]) (beginStep_frame s)

/-! The phases of a pulse -/

theorem steps_params {n : Nat} {s t : State} (h : steps n s = .next t) : t.params = s.params :=
  steps_keep (P := fun u => u.params = s.params) (fun _ _ hu hs => (step_params hs).trans hu) rfl h

theorem steps_view {n : Nat} {s t : State} (h : steps n s = .next t) : t.view = s.view :=
  steps_keep (P := fun u => u.view = s.view) (fun _ _ hu hs => (step_view hs).trans hu) rfl h

/-- Counting a saturated clock on by `k`, one tick after another. -/
theorem satNat_satInc_add (c : Word) (k : Nat) : satNat ((satInc c).toNat + k) = satNat (c.toNat + (k + 1)) := by
  apply BitVec.eq_of_toNat_eq
  simp only [satNat_toNat, satInc_toNat]
  omega

/-- While the arm of `st` counts the clock on every sample `x` short of the limit, steady samples `x` short of the limit
move the clock and nothing else. -/
theorem steps_count {s : State} {i : Instr} {x : Bit} {limit : Option Nat} {ps : List Pins} {rest : List Event}
    (ha : admitted s.params = true) (hv : s.view = .block) (hd : decodeState s.st = .ok i)
    (counts : ∀ u : State, u.params = s.params → u.pins.line = x → limit ≠ some (satInc u.clk).toNat →
      exec i u = .next { u with clk := satInc u.clk })
    (he : s.events = ps.map .tick ++ rest) (hx : Steady x ps)
    (hl : ∀ l, limit = some l → s.clk.toNat + ps.length < l) :
    ∃ t, steps ps.length s = .next t ∧ t.events = rest ∧
      t.regs = { s.regs with clk := satNat (s.clk.toNat + ps.length) } := by
  induction ps generalizing s with
  | nil => exact ⟨s, rfl, he, by rw [List.length_nil, Nat.add_zero, satNat_self]; rfl⟩
  | cons p ps ih =>
    obtain ⟨⟨hrst, hline⟩, hx⟩ := List.forall_mem_cons.1 hx
    have hn : limit ≠ some (satInc s.clk).toNat := by
      intro e
      have := hl _ e
      rw [satInc_toNat, List.length_cons] at this
      omega
    have hs : step s = .next { s.latch p (ps.map .tick ++ rest) with clk := satInc s.clk } := by
      rw [step_arm ⟨ha, hv, atTick_of_tick he⟩ he hrst hd]
      exact counts (s.latch p _) rfl hline hn
    have hl' : ∀ l, limit = some l → (satInc s.clk).toNat + ps.length < l := by
      intro l e
      have := hl l e
      rw [List.length_cons] at this
      rw [satInc_toNat]
      omega
    obtain ⟨t, ht, hte, htr⟩ :=
      ih (s := { s.latch p (ps.map .tick ++ rest) with clk := satInc s.clk }) ha hv hd counts rfl hx hl'
    refine ⟨t, (steps_succ _ hs).trans ht, hte, htr.trans ?_⟩
    rw [List.length_cons, ← satNat_satInc_add]
    rfl

/-- The code of a bounded wait is its arm's, and its arm is the wait. -/
theorem decodeState_wait {p : Params} {w : Wait} (hw : w ∈ waits p) : decodeState w.code = .ok w.arm := by
  obtain rfl | rfl | rfl | rfl := waits_cases hw <;> rfl

theorem exec_wait {s : State} {w : Wait} (hw : w ∈ waits s.params) :
    exec w.arm s = .next (s.await w.want w.limit w.next w.out) := by
  obtain rfl | rfl | rfl | rfl := waits_cases hw <;> rfl

/-- A sample that matches ends a bounded wait. -/
theorem exec_waitEnds {s : State} {w : Wait} (hw : w ∈ waits s.params) (hl : s.pins.line = w.want) :
    exec w.arm s = .next { s with clk := 0#32, st := w.next } := by
  rw [exec_wait hw, State.await, if_pos hl]

/-- A sample that does not match counts, short of the limit. -/
theorem exec_waitCounts {s : State} {w : Wait} (hw : w ∈ waits s.params) (hl : s.pins.line ≠ w.want)
    (hn : w.limit ≠ some (satInc s.clk).toNat) : exec w.arm s = .next { s with clk := satInc s.clk } := by
  rw [exec_wait hw, State.await, if_neg hl, if_neg hn]

/-- A bounded wait ends in the tick of the first sample that matches, if that comes within the limit
(41_start_response.md R125). -/
theorem steps_waitEnds {s : State} {w : Wait} {x : Bit} {ps : List Pins} {q : Pins} {rest : List Event}
    (ha : admitted s.params = true) (hv : s.view = .block) (hw : w ∈ waits s.params) (hst : s.st = w.code)
    (hx : x ≠ w.want) (he : s.events = ps.map .tick ++ .tick q :: rest) (hps : Steady x ps) (hq : q.rst = 0#1)
    (hql : q.line = w.want) (hl : ∀ l, w.limit = some l → s.clk.toNat + ps.length < l) :
    ∃ t, steps (ps.length + 1) s = .next t ∧ t.events = rest ∧
      t.regs = { s.regs with clk := 0#32, st := w.next } := by
  have hd : decodeState s.st = .ok w.arm := hst ▸ decodeState_wait hw
  obtain ⟨u, hu, hue, hur⟩ := steps_count ha hv hd
    (fun u hp hline hn => exec_waitCounts (hp ▸ hw) (hline ▸ hx) hn) he hps hl
  have hup := steps_params hu
  have hud : decodeState u.st = .ok w.arm := (congrArg (decodeState ·.st) hur).trans hd
  have hs : step u = .next { u.latch q rest with clk := 0#32, st := w.next } := by
    rw [step_arm ⟨hup ▸ ha, (steps_view hu).trans hv, atTick_of_tick hue⟩ hue hq hud]
    exact exec_waitEnds (s := u.latch q rest) (by rw [State.latch_params, hup]; exact hw) hql
  refine ⟨_, (steps_add 1 hu).trans ((steps_one u).trans hs), rfl, ?_⟩
  exact congrArg (fun r : Regs => { r with clk := 0#32, st := w.next }) hur

/-- The samples of `sampleTick`. -/
def samplePins (x : Bit) : Pins := { rst := 0#1, go := 1#1, line := x, cmd := none }

theorem sampleTick_eq (x : Bit) : sampleTick x = .tick (samplePins x) := rfl

theorem steady_replicate (n : Nat) (x : Bit) : Steady x (List.replicate n (samplePins x)) :=
  fun _ h => List.eq_of_mem_replicate h ▸ ⟨rfl, rfl⟩

/-- A pulse with a High sample, phase by phase: the tick that ends BIT_WAIT_HIGH is the first High sample. -/
theorem Pulse.ticks_succ (low high : Nat) :
    Pulse.ticks ⟨low, high + 1⟩ = (List.replicate low (samplePins 0#1)).map .tick ++
      .tick (samplePins 1#1) :: ((List.replicate high (samplePins 1#1)).map .tick ++ [.tick (samplePins 0#1)]) := by
  simp only [Pulse.ticks, sampleTick_eq, List.map_replicate, List.replicate_succ, List.cons_append]

/-- A Low sample ends a pulse of byte `j` and appends its bit there (42_bit_loop.md R142). -/
theorem exec_pulseEnds {s : State} {j : Fin 5} (hj : j.val = s.bi.toNat / 8) (hl : s.pins.line = 0#1) :
    exec .bitMeasure s = .next (s.appendBit (satInc s.clk).toNat j) := by
  have hlt : s.bi.toNat / 8 < 5 := hj ▸ j.isLt
  have hj' : (⟨s.bi.toNat / 8, hlt⟩ : Fin 5) = j := Fin.ext hj.symm
  simp only [exec, execBitMeasure, if_pos hl, dif_pos hlt, hj']

/-- A High sample counts, short of the limit. -/
theorem exec_pulseCounts {s : State} (hl : s.pins.line = 1#1)
    (hn : s.params.bitTimeout ≠ some (satInc s.clk).toNat) :
    exec .bitMeasure s = .next { s with clk := satInc s.clk } := by
  have hl0 : ¬ s.pins.line = 0#1 := bit_ne_zero.2 hl
  simp only [exec, execBitMeasure, if_neg hl0, if_neg hn]

/-- The registers after a bit is appended. -/
theorem appendBit_regs (s : State) (n : Nat) (j : Fin 5) :
    (s.appendBit n j).regs =
      { s.regs with
        frame := s.frame.set j (shiftIn s.frame[j] (classifyWidth s.params.thresh n))
        bi := s.bi + 1#6
        clk := 0#32
        st := if s.bi = 39#6 then stChecksumVerify else stBitWaitHigh } := rfl

/-- Appending a bit reads the frame, the index and the threshold, and writes the clock and the code anew. -/
theorem appendBit_regs_congr {s u : State} {c : Word} {x : BitVec 4} (hp : u.params = s.params)
    (hr : u.regs = { s.regs with clk := c, st := x }) (n : Nat) (j : Fin 5) :
    (u.appendBit n j).regs = (s.appendBit n j).regs := by
  have hframe : u.frame = s.frame := congrArg Regs.frame hr
  have hbi : u.bi = s.bi := congrArg Regs.bi hr
  rw [appendBit_regs, appendBit_regs, hr, hframe, hbi, hp]

/-- From the first High sample on, a pulse that keeps within the limit is measured by its High samples and appended to
byte `bi div 8` (42_bit_loop.md R142 to R145). -/
theorem steps_pulseEnds {s : State} {j : Fin 5} {ps : List Pins} {q : Pins} {rest : List Event}
    (ha : admitted s.params = true) (hv : s.view = .block) (hst : s.st = 7#4) (hclk : s.clk = 0#32)
    (hj : j.val = s.bi.toNat / 8) (he : s.events = ps.map .tick ++ .tick q :: rest) (hps : Steady 1#1 ps)
    (hq : q.rst = 0#1) (hql : q.line = 0#1) (hlt : ps.length + 1 < 2 ^ 32)
    (hl : ∀ l, s.params.bitTimeout = some l → ps.length < l) :
    ∃ t, steps (ps.length + 1) s = .next t ∧ t.events = rest ∧ t.regs = (s.appendBit (ps.length + 1) j).regs := by
  have hd : decodeState s.st = .ok .bitMeasure := by rw [hst]; rfl
  have hclk0 : s.clk.toNat + ps.length = ps.length := by rw [hclk]; exact Nat.zero_add _
  obtain ⟨u, hu, hue, hur⟩ := steps_count ha hv hd
    (fun u hp hline hn => exec_pulseCounts hline (hp ▸ hn)) he hps (by rw [hclk0]; exact hl)
  have hup := steps_params hu
  have hud : decodeState u.st = .ok .bitMeasure := (congrArg (decodeState ·.st) hur).trans hd
  have hwidth : (satInc u.clk).toNat = ps.length + 1 := by
    have : u.clk = satNat ps.length := (congrArg Regs.clk hur).trans (congrArg satNat hclk0)
    rw [this, satInc_satNat, satNat_toNat]
    omega
  have hju : j.val = u.bi.toNat / 8 := hj.trans (congrArg (fun r : Regs => r.bi.toNat / 8) hur).symm
  have hs : step u = .next ((u.latch q rest).appendBit (ps.length + 1) j) := by
    rw [step_arm ⟨hup ▸ ha, (steps_view hu).trans hv, atTick_of_tick hue⟩ hue hq hud, ← hwidth]
    exact exec_pulseEnds hju hql
  refine ⟨_, (steps_add 1 hu).trans ((steps_one u).trans hs), rfl, ?_⟩
  exact appendBit_regs_congr (u := u.latch q rest) hup hur _ j

/-- A measurable pulse is appended to byte `bi div 8` by its High samples (42_bit_loop.md R141 to R145). -/
theorem steps_pulse {s : State} {p : Pulse} {j : Fin 5} {rest : List Event} (ha : admitted s.params = true)
    (hv : s.view = .block) (hst : s.st = 6#4) (hclk : s.clk = 0#32) (hj : j.val = s.bi.toNat / 8)
    (hp : p.measurable s.params) (he : s.events = p.ticks ++ rest) :
    ∃ t, steps p.ticks.length s = .next t ∧ t.events = rest ∧ t.regs = (s.appendBit p.high j).regs := by
  obtain ⟨low, high⟩ := p
  obtain ⟨hpos, hlt, hlim⟩ := hp
  obtain ⟨high, rfl⟩ : ∃ h, high = h + 1 := ⟨high - 1, (Nat.sub_add_cancel hpos).symm⟩
  simp only [Pulse.ticks_succ, List.append_assoc, List.cons_append, List.nil_append] at he
  have hw : ⟨.bitWaitHigh, 6#4, 1#1, s.params.bitTimeout, 7#4, 5#3⟩ ∈ waits s.params :=
    .tail _ (.tail _ (.tail _ (.head _)))
  have hlow : ∀ l, s.params.bitTimeout = some l →
      s.clk.toNat + (List.replicate low (samplePins 0#1)).length < l := by
    intro l e
    rw [hclk, List.length_replicate, BitVec.toNat_ofNat, Nat.zero_mod, Nat.zero_add]
    exact (hlim l e).1
  obtain ⟨u, hu, hue, hur⟩ :=
    steps_waitEnds ha hv hw hst (bit_ne_one.2 rfl) he (steady_replicate low 0#1) rfl rfl hlow
  have hup := steps_params hu
  have hju : j.val = u.bi.toNat / 8 := hj.trans (congrArg (fun r : Regs => r.bi.toNat / 8) hur).symm
  have hwidth : (List.replicate high (samplePins 1#1)).length + 1 < 2 ^ 32 := by
    rw [List.length_replicate]; exact hlt
  have hhigh : ∀ l, u.params.bitTimeout = some l → (List.replicate high (samplePins 1#1)).length < l := by
    intro l e
    rw [List.length_replicate]
    exact (hlim l (hup ▸ e)).2
  obtain ⟨t, ht, hte, htr⟩ := steps_pulseEnds (hup ▸ ha) ((steps_view hu).trans hv) (congrArg Regs.st hur)
    (congrArg Regs.clk hur) hju hue (steady_replicate high 1#1) rfl rfl hwidth hhigh
  rw [List.length_replicate] at ht hu htr
  refine ⟨t, ?_, hte, htr.trans (appendBit_regs_congr hup hur _ j)⟩
  have hlen : (Pulse.ticks ⟨low, high + 1⟩).length = low + 1 + (high + 1) := by
    simp [Pulse.ticks_succ]; omega
  rw [hlen, steps_add _ hu, ht]

/-! The bits of the frame -/

theorem shiftIn_lsb (b : Byte) (x : Bit) : (shiftIn b x).getLsbD 0 = x.getLsbD 0 := by
  simp [shiftIn]

theorem shiftIn_getLsbD_succ (b : Byte) (x : Bit) {m : Nat} (hm : m + 1 < 8) :
    (shiftIn b x).getLsbD (m + 1) = b.getLsbD m := by
  simp [shiftIn, hm, BitVec.getLsbD_eq_getElem (Nat.lt_of_succ_lt hm)]

theorem classifyWidth_lsb (thresh w : Nat) : (classifyWidth thresh w).getLsbD 0 = decide (thresh < w) := by
  unfold classifyWidth
  split <;> simp [*]

/-- The first `k` pulses as the frame holds them: byte `j` has taken the `min (k - 8 * j) 8` first of its bits, each
shifted up by those after it. -/
def SpellsFirst (k : Nat) (pulses : List Pulse) (thresh : Nat) (f : Vector Byte 5) : Prop :=
  ∀ (j : Fin 5) (i : Fin 8), 8 * j.val + i.val < k → ∃ p, pulses[8 * j.val + i.val]? = some p ∧
    f[j].getLsbD (min (k - 8 * j.val) 8 - 1 - i.val) = decide (thresh < p.high)

/-- All forty pulses spell the frame (20_memory.md R52). -/
theorem spells_of_first {pulses : List Pulse} {thresh : Nat} {f : Vector Byte 5}
    (h : SpellsFirst 40 pulses thresh f) : Spells pulses thresh f := by
  intro j i
  have := j.isLt
  obtain ⟨p, hp, hf⟩ := h j i (by omega)
  rw [show min (40 - 8 * j.val) 8 - 1 - i.val = 7 - i.val by omega] at hf
  exact ⟨p, hp, hf⟩

/-- Appending pulse `k` to its byte moves that byte's bits up and leaves the other bytes as they were. -/
theorem SpellsFirst.append {k : Nat} {pulses : List Pulse} {thresh : Nat} {f : Vector Byte 5} {p : Pulse} {j : Fin 5}
    (h : SpellsFirst k pulses thresh f) (hj : j.val = k / 8) (hp : pulses[k]? = some p) :
    SpellsFirst (k + 1) pulses thresh (f.set j (shiftIn f[j] (classifyWidth thresh p.high))) := by
  intro j' i hlt
  by_cases hjj : j' = j
  · subst hjj
    rw [Fin.getElem_fin, Vector.getElem_set_self]
    by_cases hik : 8 * j'.val + i.val = k
    · refine ⟨p, hik ▸ hp, ?_⟩
      rw [show min (k + 1 - 8 * j'.val) 8 - 1 - i.val = 0 by omega, shiftIn_lsb, classifyWidth_lsb]
    · obtain ⟨p', hp', hf⟩ := h j' i (by omega)
      refine ⟨p', hp', ?_⟩
      rw [show min (k + 1 - 8 * j'.val) 8 - 1 - i.val = min (k - 8 * j'.val) 8 - 1 - i.val + 1 by omega,
        shiftIn_getLsbD_succ _ _ (by omega)]
      exact hf
  · have hne : j.val ≠ j'.val := fun e => hjj (Fin.ext e.symm)
    obtain ⟨p', hp', hf⟩ := h j' i (by omega)
    refine ⟨p', hp', ?_⟩
    rw [Fin.getElem_fin, Vector.getElem_set_ne _ _ hne,
      show min (k + 1 - 8 * j'.val) 8 = min (k - 8 * j'.val) 8 by omega]
    exact hf

/-! The forty pulses -/

/-- Up to the fortieth, each pulse is appended, the index counts it, and nothing else changes. -/
theorem steps_pulses {s : State} {pulses : List Pulse} {rest : List Event} (hb : s.atBlockTick) (hst : s.st = 6#4)
    (hclk : s.clk = 0#32) (hbi : s.bi = 0#6) (hlen : pulses.length = 40)
    (hp : ∀ p ∈ pulses, p.measurable s.params) (he : s.events = pulses.flatMap Pulse.ticks ++ rest)
    (k : Nat) (hk : k ≤ 40) :
    ∃ t, steps ((pulses.take k).flatMap Pulse.ticks).length s = .next t ∧
      t.events = (pulses.drop k).flatMap Pulse.ticks ++ rest ∧
      SpellsFirst k pulses s.params.thresh t.frame ∧
      t.regs = { s.regs with frame := t.frame, bi := BitVec.ofNat 6 k, st := if k = 40 then 8#4 else 6#4 } := by
  obtain ⟨ha, hv, -⟩ := hb
  induction k with
  | zero =>
    refine ⟨s, rfl, he, fun _ _ h => absurd h (Nat.not_lt_zero _), ?_⟩
    rw [if_neg (by decide), ← hst, ← hbi]; rfl
  | succ k ih =>
    obtain ⟨u, hu, hue, huf, hur⟩ := ih (by omega)
    have hkl : k < pulses.length := by omega
    have hup := steps_params hu
    have hust : u.st = 6#4 := (congrArg Regs.st hur).trans (if_neg (by omega))
    have hubi : u.bi = BitVec.ofNat 6 k := congrArg Regs.bi hur
    have hubiNat : u.bi.toNat = k := by rw [hubi, BitVec.toNat_ofNat]; omega
    have hj : k / 8 < 5 := by omega
    rw [List.drop_eq_getElem_cons hkl, List.flatMap_cons, List.append_assoc] at hue
    obtain ⟨t, ht, hte, htr⟩ := steps_pulse (j := ⟨k / 8, hj⟩) (hup ▸ ha) ((steps_view hu).trans hv) hust
      ((congrArg Regs.clk hur).trans hclk) (congrArg (· / 8) hubiNat).symm (hup ▸ hp _ (List.getElem_mem hkl)) hue
    have htf : t.frame = (u.appendBit pulses[k].high ⟨k / 8, hj⟩).frame := congrArg Regs.frame htr
    refine ⟨t, ?_, hte, ?_, ?_⟩
    · rw [List.take_succ_eq_append_getElem hkl, List.flatMap_append, List.length_append, List.flatMap_singleton,
        steps_add _ hu, ht]
    · rw [htf, State.appendBit_frame, hup]
      exact huf.append rfl (List.getElem?_eq_getElem hkl)
    · have hlast : u.bi = 39#6 ↔ k + 1 = 40 := by bv_omega
      rw [htr, htf, State.appendBit_frame, appendBit_regs, hur, hubi, BitVec.ofNat_add]
      simp only [← hubi, hlast, stChecksumVerify, stBitWaitHigh, State.regs_clk, hclk]

/-- Settles O27: the fortieth of `steps_pulses`. -/
theorem fortyPulsesFillFrame : Obligations.FortyPulsesFillFrame := by
  intro s pulses rest hb hst hclk hbi hlen hp he
  obtain ⟨t, ht, hte, htf, htr⟩ := steps_pulses hb hst hclk hbi hlen hp he 40 le_rfl
  rw [List.take_of_length_le hlen.le] at ht
  rw [List.drop_of_length_le hlen.le] at hte
  exact ⟨t, ht, hte, spells_of_first htf, htr⟩

end Sys2Proof.Machine

/-! # The statements of 30_encoding.md

The decoder and the encoder are inverse to each other, space by space; `decodeCommand_ok` and `decodeCommand_error` say
what the two answers to a command word mean. A fault of a step comes from the code it issues, and only a reserved code
stops with BadState. -/

namespace Sys2Proof

/-! The round trips -/

/-- Settles O1: a code's fields are the operands it was built from, and `decode` tests no more of them than
`Instr.wellFormed` and the encoder's zeros grant. -/
theorem decodeOfEncode : Obligations.DecodeOfEncode := by
  intro i hwf
  cases i with
  | gpioSetDir b p =>
    have hpreset : b = 1#1 ∨ p = 0#1 := by simpa [Instr.wellFormed] using hwf
    simp [encode, decode, decodeCommand, hpreset]
  | gpioWrite | delayMs | delayUs | classify => simp [encode, decode, decodeCommand]
  | gpioRead | clkReset | clkElapsed | checksum | storePublish | storeRead =>
    simp [encode, decode, decodeCommand, noOperand]
  | _ => rfl

theorem decodeState_ok {c : BitVec 4} {i : Instr} (h : decodeState c = .ok i) :
    i.wellFormed = true ∧ encode i = .state c := by
  obtain ⟨rfl, rfl⟩ | ⟨rfl, rfl⟩ | ⟨rfl, rfl⟩ | ⟨rfl, rfl⟩ | ⟨rfl, rfl⟩ | ⟨rfl, rfl⟩ | ⟨rfl, rfl⟩ | ⟨rfl, rfl⟩ |
    ⟨rfl, rfl⟩ | ⟨rfl, rfl⟩ | ⟨rfl, rfl⟩ := decodeState_cases h <;> exact ⟨rfl, rfl⟩

theorem decodePort_ok {a : PortAccess} {i : Instr} (h : decodePort a = .ok i) :
    i.wellFormed = true ∧ encode i = .port a := by
  obtain ⟨rfl, rfl⟩ | ⟨rfl, rfl⟩ := decodePort_cases h <;> exact ⟨rfl, rfl⟩

theorem noOperand_iff {w : Word} : noOperand w = true ↔ bField w = 0#1 ∧ pField w = 0#1 ∧ nField w = 0#24 := by
  simp [noOperand, and_assoc]

/-- A command word that decodes is rebuilt from its fields: each op's test makes the fields it takes no operand from
the zeros the encoder writes. -/
theorem decodeCommand_ok {w : Word} {i : Instr} (h : decodeCommand w = .ok i) :
    i.wellFormed = true ∧ encode i = .command w := by
  have hop : opField w = BitVec.ofNat 4 (opField w).toNat := by simp
  simp only [decodeCommand, noOperand_iff] at h
  split at h
  case isTrue => cases h
  case isFalse hz =>
    have hw := commandWord_fields w (not_not.1 hz)
    split at h
    case h_12 => cases h
    all_goals
      rename_i e
      rw [e] at hop
      split at h <;> cases h
      rename_i ht
      exact ⟨by simp [Instr.wellFormed, ht], congrArg Code.command (.trans (by simp [hop, ht]) hw)⟩

/-- Settles O2: in each of the three spaces a code that decodes is the one the encoder writes. -/
theorem encodeOfDecode : Obligations.EncodeOfDecode := by
  intro c i h
  cases c with
  | state c => exact decodeState_ok h
  | command w => exact decodeCommand_ok h
  | port a => exact decodePort_ok h

/-! The legal command words -/

open Machine (illegalWord)

/-- R75's conditions on the fields of the word, as the decoder reads them. -/
theorem illegalWord_iff (w : Word) : illegalWord w ↔
    let op := (opField w).toNat
    op = 0 ∨ 12 ≤ op ∨ zField w ≠ 0#2 ∨
    (bField w ≠ 0#1 ∧ op ≠ 1 ∧ op ≠ 2) ∨ (pField w ≠ 0#1 ∧ op ≠ 1) ∨
    (nField w ≠ 0#24 ∧ op ≠ 6 ∧ op ≠ 7 ∧ op ≠ 8) ∨
    (op = 1 ∧ bField w = 0#1 ∧ pField w ≠ 0#1) := by
  simp only [illegalWord, ne_eq, ← BitVec.toNat_inj, opField_toNat, bField_toNat, pField_toNat, zField_toNat,
    nField_toNat]
  rfl

/-- R75 calls no word illegal that the encoder writes. -/
theorem not_illegalWord_of_encode {i : Instr} {w : Word} (hwf : i.wellFormed = true) (he : encode i = .command w) :
    ¬ illegalWord w := by
  rw [illegalWord_iff]
  cases i with
  | gpioSetDir b p =>
    cases he
    have hpreset : b = 1#1 ∨ p = 0#1 := by simpa [Instr.wellFormed] using hwf
    rcases hpreset with rfl | rfl <;> simp
  | _ => cases he <;> simp

/-- The decoder's tests, op by op, are no stricter than R75. -/
theorem decodeCommand_error {w : Word} {e : DecodeError} (h : decodeCommand w = .error e) :
    e = .illegalPrimitive ∧ illegalWord w := by
  rw [illegalWord_iff]
  simp only [decodeCommand, noOperand_iff, ← Machine.bit_ne_zero] at h
  split at h
  case isTrue hz => cases h; simp [hz]
  case isFalse hz =>
    split at h
    case h_12 =>
      cases h
      refine ⟨rfl, ?_⟩
      simp only [imp_false] at *
      omega
    all_goals
      split at h <;> cases h
      rename_i hop ht
      simp only [hop, true_and]
      tauto

theorem decodeCommand_illegal {w : Word} : decodeCommand w = .error .illegalPrimitive ↔ illegalWord w := by
  refine ⟨fun h => (decodeCommand_error h).2, fun hill => ?_⟩
  cases h : decodeCommand w with
  | ok i => exact absurd hill (not_illegalWord_of_encode (decodeCommand_ok h).1 (decodeCommand_ok h).2)
  | error e => rw [(decodeCommand_error h).1]

theorem decodeCommand_legal {w : Word} : (∃ i, decodeCommand w = .ok i) ↔ ¬ illegalWord w := by
  rw [← decodeCommand_illegal]
  cases h : decodeCommand w with
  | ok i => simp
  | error e => simp [(decodeCommand_error h).1]

/-- Settles O3: each code written out is decoded by evaluation. -/
theorem specWordsDecode : Obligations.SpecWordsDecode := by
  unfold Obligations.SpecWordsDecode
  decide

end Sys2Proof

namespace Sys2Proof.Machine

/-- Settles O4: the words that decode are the legal ones, and issuing one that does not stops by its name. -/
theorem illegalWordsFault : Obligations.IllegalWordsFault := by
  refine ⟨fun w => decodeCommand_legal, fun s w hp hbusy hc hill => ?_⟩
  rw [step_command hp hbusy hc, issue_error (c := .command w) (decodeCommand_illegal.2 hill)]
  rfl

/-! The reserved state codes -/

/-- The codes that `decode` rejects as reserved are the state codes above COOLDOWN's. -/
theorem decodeState_reserved {c : BitVec 4} : decodeState c = .error .reservedState ↔ 11 ≤ c.toNat := by
  revert c
  decide

/-- Only the state codes have reserved ones. -/
theorem decode_reserved {c : Code} (h : decode c = .error .reservedState) : ∃ k, c = .state k ∧ 11 ≤ k.toNat := by
  cases c with
  | state k => exact ⟨k, rfl, decodeState_reserved.1 h⟩
  | command w => cases (decodeCommand_error h).1
  | port a =>
    simp only [decode, decodePort] at h
    repeat' split at h
    all_goals cases h

/-- The faults an instruction itself can raise: R101 and R102's, and BIT_MEASURE's beyond the frame. -/
theorem exec_fault {i : Instr} {s : State} {r : Fault} (h : exec i s = .fault r) :
    r = .modeMisuse ∨ r = .frameIndex := by
  cases i with
  | gpioWrite | gpioRead => obtain ⟨-, h⟩ | ⟨-, h⟩ := ite_eq_iff.1 h <;> cases h; exact .inl rfl
  | bitMeasure =>
    obtain ⟨-, h⟩ | ⟨-, h⟩ := ite_eq_iff.1 h
    · split at h <;> cases h
      exact .inr rfl
    · obtain ⟨-, h⟩ | ⟨-, h⟩ := ite_eq_iff.1 h <;> cases h
  | idle | startLow | startHigh | checksumVerify | cooldown =>
    obtain ⟨-, h⟩ | ⟨-, h⟩ := ite_eq_iff.1 h <;> cases h
  | _ => cases h

/-- Issuing a code raises BadState only for a reserved code. -/
theorem issue_badState {c : Code} {t : State} (h : issue c t = .fault .badState) :
    decode c = .error .reservedState := by
  cases hd : decode c with
  | ok i =>
    rw [issue_ok hd] at h
    obtain h | h := exec_fault h <;> cases h
  | error e =>
    rw [issue_error hd] at h
    cases e <;> cases h
    rfl

/-- A fault is raised by the code the step issues. -/
theorem step_fault {s : State} {r : Fault} (h : step s = .fault r) :
    ∃ c, nextAction s = .issue c ∧ issue c s.beginStep = .fault r := by
  unfold step at h
  split at h
  case h_4 c hc => exact ⟨c, hc, h⟩
  all_goals cases h

/-- A state code is issued by a block tick without reset only, and it is the one in `st`. -/
theorem nextAction_state {s : State} {c : BitVec 4} (h : nextAction s = .issue (.state c)) :
    s.atBlockTick ∧ s.beginStep.pins.rst = 0#1 ∧ s.st = c := by
  have ha : admitted s.params = true := by
    by_contra ha
    simp [nextAction, ha] at h
  have ht : s.atTick := by
    intro a rest he
    simp [nextAction, ha, he] at h
  rw [nextAction_tick ha ht] at h
  cases hv : s.view with
  | block =>
    simp only [tickAction, beginStep_view, hv, beginStep_st] at h
    obtain ⟨-, h⟩ | ⟨hr, h⟩ := ite_eq_iff.1 h <;> cases h
    exact ⟨⟨ha, hv, ht⟩, bit_ne_one.1 hr, rfl⟩
  | primitive =>
    simp only [tickAction, beginStep_view, hv] at h
    repeat' split at h
    all_goals cases h

/-- BadState is raised by the tick that issues a reserved `st`, and by no other step (R71; log entry 19). -/
theorem step_badState {s : State} :
    step s = .fault .badState ↔ s.atBlockTick ∧ s.beginStep.pins.rst = 0#1 ∧ 11 ≤ s.st.toNat := by
  constructor
  · intro h
    obtain ⟨c, hn, hc⟩ := step_fault h
    obtain ⟨k, rfl, hk⟩ := decode_reserved (issue_badState hc)
    obtain ⟨hb, hr, rfl⟩ := nextAction_state hn
    exact ⟨hb, hr, hk⟩
  · rintro ⟨hb, hr, hst⟩
    rw [step_block hb hr, issue_error (c := .state s.st) (decodeState_reserved.2 hst)]
    rfl

theorem waits_next_legal {p : Params} {w : Wait} (hw : w ∈ waits p) : w.next.toNat ≤ 10 := by
  obtain rfl | rfl | rfl | rfl := waits_cases hw <;> simp

/-- A state arm writes codes of R70 only, or none. -/
theorem ArmStep.st_legal {s t : State} (h : ArmStep s t) : t.st = s.st ∨ t.st.toNat ≤ 10 := by
  cases h with
  | idleStays | startLowCounts | startHighCounts | waitCounts | pulseCounts | cooldownCounts => exact .inl rfl
  | waitEnds hw => exact .inr (waits_next_legal hw)
  | pulseEnds => rw [State.appendBit_st]; split <;> exact .inr (by decide)
  | _ => exact .inr (by simp)

@[simp] theorem State.setDirection_st (s : State) (b p : Bit) : (s.setDirection b p).st = s.st := by
  unfold State.setDirection; split <;> rfl

theorem CommandStep.st_eq {s t : State} (h : CommandStep s t) : t.st = s.st := by
  cases h with
  | setsDirection b p => exact State.setDirection_st ..
  | _ => rfl

theorem step_st_legal {s t : State} (h : step s = .next t) : t.st = s.st ∨ t.st.toNat ≤ 10 := by
  rw [← beginStep_st s]
  cases step_kind h with
  | reset => exact .inr (by simp)
  | arm _ _ h => exact h.st_legal
  | command _ h => exact .inl h.st_eq
  | read | quiet => exact .inl rfl

/-- Settles O5: of all codes only a reserved one stops with BadState, and a block tick without reset alone issues `st`;
the arms write legal codes and no other step writes `st` but the reset arm. -/
theorem reservedCodesFault : Obligations.ReservedCodesFault :=
  ⟨fun _ => step_badState, fun _ _ h hne => (step_st_legal h).resolve_left hne⟩

end Sys2Proof.Machine

/-! # The statements of 40_line_and_clock.md

A delay is its issue, `State.occupy`, and then ticks that find the agent busy: `steps_delayed` runs any number of those.
What the primitive view leaves standing is read off `CommandStep` and `StepKind`, and the words of the primitives are
decoded by the round trip of 30_encoding.md. -/

namespace Sys2Proof.Machine

/-! The delays -/

/-- While the agent is occupied, ticks move the clock and nothing else, whatever commands they offer
(40_line_and_clock.md R110). -/
theorem steps_delayed {s : State} {ps : List Pins} {rest : List Event} (ha : admitted s.params = true)
    (hv : s.view = .primitive) (he : s.events = ps.map .tick ++ rest) (hb : ps.length ≤ s.busy) :
    ∃ t, steps ps.length s = .next t ∧ t.busy = s.busy - ps.length ∧ t.events = rest ∧
      t.regs = { s.regs with clk := satNat (s.clk.toNat + ps.length) } := by
  induction ps generalizing s with
  | nil => exact ⟨s, rfl, rfl, he, by rw [List.length_nil, Nat.add_zero, satNat_self]; rfl⟩
  | cons p ps ih =>
    rw [List.length_cons] at hb ⊢
    have hs : step s = .next (s.latch p (ps.map .tick ++ rest)).quietTick := by
      rw [step_busy ⟨ha, hv, atTick_of_tick he⟩ (by omega), beginStep_tick he]; rfl
    obtain ⟨t, ht, htb, hte, htr⟩ := ih (s := (s.latch p (ps.map .tick ++ rest)).quietTick) ha hv rfl
      (by rw [State.quietTick_busy, State.latch_busy]; omega)
    refine ⟨t, (steps_succ _ hs).trans ht, ?_, hte, htr.trans ?_⟩
    · rw [htb, State.quietTick_busy, State.latch_busy]; omega
    · rw [← satNat_satInc_add]; rfl

/-- A command whose tick counts the clock and occupies the agent with `n` ticks occupies it for `n` ticks. -/
theorem occupiesTicks {i : Instr} {n : Nat} (hx : ∀ s, exec i s = .next (s.tickClock.occupy n)) :
    OccupiesTicks i n := by
  intro s w p ps rest ha hv hb hc hd he hn
  have hs : step s = .next ((s.latch p (ps.map .tick ++ rest)).tickClock.occupy n) := by
    rw [step_command ⟨ha, hv, atTick_of_tick he⟩ hb (by rw [beginStep_tick he]; exact hc), issue_ok hd, hx,
      beginStep_tick he]
  obtain ⟨t, ht, htb, hte, htr⟩ := steps_delayed (s := (s.latch p (ps.map .tick ++ rest)).tickClock.occupy n)
    ha hv rfl (by rw [State.occupy_busy]; omega)
  refine ⟨t, (steps_succ _ hs).trans ht, ?_, hte, htr.trans ?_⟩
  · rw [htb, State.occupy_busy]; omega
  · rw [← satNat_satInc_add]; rfl

/-- Settles O41: both delays occupy the agent in their first tick and do no more in it. -/
theorem delaysOccupyTicks : Obligations.DelaysOccupyTicks :=
  fun _ => ⟨occupiesTicks fun _ => rfl, occupiesTicks fun _ => rfl⟩

/-! What the primitive view leaves standing -/

@[simp] theorem State.setDirection_bi (s : State) (b p : Bit) : (s.setDirection b p).bi = s.bi := by
  unfold State.setDirection; split <;> rfl

@[simp] theorem State.setDirection_frame (s : State) (b p : Bit) : (s.setDirection b p).frame = s.frame := by
  unfold State.setDirection; split <;> rfl

@[simp] theorem State.setDirection_dly (s : State) (b p : Bit) : (s.setDirection b p).dly = s.dly := by
  unfold State.setDirection; split <;> rfl

/-- No command writes the registers of the block's transaction (R110 (e)). -/
theorem CommandStep.transaction_kept {s t : State} (h : CommandStep s t) :
    t.st = s.st ∧ t.bi = s.bi ∧ t.frame = s.frame ∧ t.outcome = s.outcome ∧ t.dly = s.dly := by
  refine ⟨h.st_eq, ?bi, ?frame, h.outcome_eq, ?dly⟩
  all_goals
    cases h with
    | setsDirection b p => simp
    | _ => rfl

/-- Settles O56: in the primitive view a step is a read, a command or a quiet tick, and none of them writes these
registers. -/
theorem primitiveViewFrame : Obligations.PrimitiveViewFrame := by
  intro s t hv h
  rw [← beginStep_st s, ← beginStep_bi s, ← beginStep_frame s, ← beginStep_outcome s, ← beginStep_dly s]
  cases step_kind h with
  | read | quiet => exact ⟨rfl, rfl, rfl, rfl, rfl⟩
  | reset hb => rw [hb.2.1] at hv; cases hv
  | arm hb => rw [hb.2.1] at hv; cases hv
  | command _ h => exact h.transaction_kept

/-! The primitives, one by one -/

/-- The number a command word is, from its fields, decodes to the instruction those fields spell. -/
theorem decode_fields {i : Instr} {op : BitVec 4} {b p : Bit} {n : BitVec 24} (hwf : i.wellFormed = true)
    (he : encode i = .command (commandWord op b p n)) :
    decode (.command (BitVec.ofNat 32 (op.toNat + 2 ^ 4 * b.toNat + 2 ^ 5 * p.toNat + 2 ^ 8 * n.toNat))) = .ok i := by
  rw [← commandWord_eq, ← he]
  exact decodeOfEncode i hwf

/-- Settles O36: `State.setDirection` after the clock's count, on either direction. -/
theorem gpioSetDirPrimitive : Obligations.GpioSetDirPrimitive :=
  fun _ p => ⟨by simpa using decode_fields (i := .gpioSetDir 1#1 p) rfl rfl, rfl, rfl, rfl⟩

/-- Settles O37: the direction decides between the write and the fault. -/
theorem gpioWritePrimitive : Obligations.GpioWritePrimitive :=
  fun _ b => ⟨by simpa using decode_fields (i := .gpioWrite b) rfl rfl,
    fun hdir => if_neg (bit_ne_zero.2 hdir), fun hdir => if_pos hdir⟩

/-- Settles O38: the direction decides between the sample and the fault. -/
theorem gpioReadPrimitive : Obligations.GpioReadPrimitive :=
  ⟨rfl, fun _ => ⟨fun hdir => if_neg (bit_ne_one.2 hdir), fun hdir => if_pos hdir⟩⟩

/-- Settles O39: CLK_ELAPSED responds with the clock before it counts. -/
theorem clockPrimitives : Obligations.ClockPrimitives :=
  ⟨rfl, rfl, fun _ => ⟨rfl, rfl⟩⟩

/-- Settles O40: the words of R108 and R109 for every `n`, and `State.occupy` with the rule's ticks. -/
theorem delayPrimitives : Obligations.DelayPrimitives :=
  fun _ n => ⟨by simpa using decode_fields (i := .delayMs n) rfl rfl,
    by simpa using decode_fields (i := .delayUs n) rfl rfl, rfl, rfl⟩

end Sys2Proof.Machine

/-! # The statements of 41_start_response.md

`Hold` describes the three holds as `Wait` does the four waits, and `steps_hold` runs the ticks of one. A transaction is
the start sequence (`steps_start`), the response (`steps_response`), the forty pulses (`steps_answer`, over
`fortyPulsesFillFrame`), and the checksum's tick (`step_check`). -/

namespace Sys2Proof.Machine

/-! One tick of each arm -/

/-- Settles O17: `go` decides between IDLE's start and nothing. -/
theorem idleArm : Obligations.IdleArm :=
  ⟨rfl, fun _ => ⟨fun hgo => if_pos hgo, fun hgo => if_neg (bit_ne_one.2 hgo)⟩⟩

/-- One tick of a hold of `n` ticks that leaves for `t` (R121). -/
def State.holdTick (s : State) (n : Nat) (t : State) : Host.Outcome State Fault Refusal :=
  if s.holdDone n then .next t else .next s.countDelay

section
variable {s t : State} {n : Nat}

theorem holdTick_ends (h : s.dly.toNat + 1 = n) : s.holdTick n t = .next t :=
  if_pos ((holdDone_iff s n).2 h)

theorem holdTick_counts (h : s.dly.toNat + 1 ≠ n) : s.holdTick n t = .next s.countDelay :=
  if_neg fun hd => h ((holdDone_iff s n).1 hd)

/-- The exact increment of `dly`, and no other write. -/
theorem countDelay_eq (h : s.dly.toNat + 1 < 2 ^ 32) : s.countDelay = { s with dly := s.dly + 1#32 } := by
  have hdly : s.countDelay.dly = s.dly + 1#32 := by rw [countDelay_dly s h, BitVec.ofNat_add]; simp
  rw [← hdly]; rfl

theorem holdTick_countsExactly (h : s.dly.toNat + 1 ≠ n) (hfit : s.dly.toNat + 1 < 2 ^ 32) :
    s.holdTick n t = .next { s with dly := s.dly + 1#32 } := by
  rw [holdTick_counts h, countDelay_eq hfit]

end

/-- Settles O18: the three cases of a hold. -/
theorem startLowArm : Obligations.StartLowArm :=
  ⟨rfl, fun _ => ⟨holdTick_ends, holdTick_countsExactly, fun hn _ => ⟨_, holdTick_counts hn⟩⟩⟩

/-- Settles O19: the three cases of a hold. -/
theorem startHighArm : Obligations.StartHighArm :=
  ⟨rfl, fun _ => ⟨holdTick_ends, holdTick_countsExactly, fun hn _ => ⟨_, holdTick_counts hn⟩⟩⟩

/-- The sample that reaches the limit without a match aborts a bounded wait. -/
theorem exec_waitAborts {s : State} {w : Wait} (hw : w ∈ waits s.params) (hl : s.pins.line ≠ w.want)
    (hn : w.limit = some (satInc s.clk).toNat) : exec w.arm s = .next (s.abort w.out) := by
  rw [exec_wait hw, State.await, if_neg hl, if_pos hn]

/-- Settles O20: the three ways out of a bounded wait. -/
theorem awaitArms : Obligations.AwaitArms :=
  fun _ _ hw => ⟨decodeState_wait hw, exec_waitEnds hw, exec_waitAborts hw, exec_waitCounts hw⟩

/-! The bounded waits, tick after tick -/

/-- Settles O21: `steps_waitEnds` from a zero clock. -/
theorem awaitSucceedsWithinLimit : Obligations.AwaitSucceedsWithinLimit := by
  intro s w x ps q rest ⟨ha, hv, _⟩ hw hst hclk hx he hps hq hql hl
  exact steps_waitEnds ha hv hw hst hx he hps hq hql (by simpa [hclk] using hl)

/-- Settles O22: all samples but the last are counted, and the last is the limit's. -/
theorem awaitAbortsAtLimit : Obligations.AwaitAbortsAtLimit := by
  intro s w x ps rest ⟨ha, hv, _⟩ hw hst hclk hx he hps hlim
  have ⟨hpos, hlt⟩ := waits_limitAdmitted ((admitted_iff _).1 ha) hw _ hlim
  obtain ⟨qs, q, rfl⟩ := (List.eq_nil_or_concat' ps).resolve_left (List.ne_nil_of_length_pos hpos)
  rw [List.length_append, List.length_singleton] at hlt hlim ⊢
  rw [List.map_append, List.append_assoc] at he
  have hd : decodeState s.st = .ok w.arm := hst ▸ decodeState_wait hw
  obtain ⟨hqs, hq⟩ := List.forall_mem_append.1 hps
  obtain ⟨hqrst, hqline⟩ := hq q (List.mem_singleton_self q)
  obtain ⟨u, hu, hue, hur⟩ := steps_count ha hv hd
    (fun u hp hline hn => exec_waitCounts (hp ▸ hw) (hline ▸ hx) hn) he hqs (by simp [hclk, hlim])
  have hup := steps_params hu
  have hud : decodeState u.st = .ok w.arm := (congrArg (decodeState ·.st) hur).trans hd
  have hcount : w.limit = some (satInc u.clk).toNat := by
    have : u.clk = satNat (s.clk.toNat + qs.length) := congrArg Regs.clk hur
    rw [hlim, this, satInc_satNat, satNat_toNat, hclk]
    simp
    omega
  have hs : step u = .next ((u.latch q rest).abort w.out) := by
    rw [step_arm ⟨hup ▸ ha, (steps_view hu).trans hv, atTick_of_tick hue⟩ hue hqrst hud]
    exact exec_waitAborts (s := u.latch q rest) (by rw [State.latch_params, hup]; exact hw) (hqline ▸ hx) hcount
  refine ⟨_, (steps_add 1 hu).trans ((steps_one u).trans hs), rfl, ?_⟩
  exact congrArg (fun r : Regs => { r with outcome := w.out, dly := 0#32, clk := 0#32, st := 10#4 }) hur

/-! The holds, tick after tick -/

/-- A hold as its rule gives it: the arm, its code, its length in ticks, and the writes of its last tick. -/
structure Hold where
  arm : Instr
  code : BitVec 4
  ticks : Nat
  leave : State → State

/-- The three holds (R121, R122; 43_check_publish.md R165). -/
def holds (p : Params) : List Hold :=
  [⟨.startLow, 1#4, p.tStartLow, fun s => { s with drv := 1#1, dly := 0#32, st := 2#4 }⟩,
   ⟨.startHigh, 2#4, p.tStartHigh, fun s => { s with dir := 0#1, clk := 0#32, dly := 0#32, st := 3#4 }⟩,
   ⟨.cooldown, 10#4, p.tCooldown, fun s => { s with dly := 0#32, st := 0#4 }⟩]

/-- The three holds, one by one. -/
theorem holds_cases {p : Params} {h : Hold} (hh : h ∈ holds p) :
    h = ⟨.startLow, 1#4, p.tStartLow, fun s => { s with drv := 1#1, dly := 0#32, st := 2#4 }⟩ ∨
    h = ⟨.startHigh, 2#4, p.tStartHigh, fun s => { s with dir := 0#1, clk := 0#32, dly := 0#32, st := 3#4 }⟩ ∨
    h = ⟨.cooldown, 10#4, p.tCooldown, fun s => { s with dly := 0#32, st := 0#4 }⟩ := by
  simpa only [holds, List.mem_cons, List.not_mem_nil, or_false] using hh

theorem decodeState_hold {p : Params} {h : Hold} (hh : h ∈ holds p) : decodeState h.code = .ok h.arm := by
  obtain rfl | rfl | rfl := holds_cases hh <;> rfl

theorem exec_hold {s : State} {h : Hold} (hh : h ∈ holds s.params) :
    exec h.arm s = s.holdTick h.ticks (h.leave s) := by
  obtain rfl | rfl | rfl := holds_cases hh <;> rfl

/-- The length of every hold is admitted with the configuration. -/
theorem holds_admitted {p : Params} (ha : admittedConfig p) {h : Hold} (hh : h ∈ holds p) :
    1 ≤ h.ticks ∧ h.ticks < 2 ^ 32 := by
  obtain ⟨hlow, hhigh, hcool, -⟩ := ha
  obtain rfl | rfl | rfl := holds_cases hh
  · exact hlow
  · exact hhigh
  · exact hcool

/-- A hold's exit overwrites `dly`: what it had counted does not show afterwards. -/
theorem leave_regs_congr {p : Params} {h : Hold} (hh : h ∈ holds p) {s u : State} {d : Word}
    (hr : u.regs = { s.regs with dly := d }) : (h.leave u).regs = (h.leave s).regs := by
  obtain rfl | rfl | rfl := holds_cases hh
  · exact congrArg (fun r : Regs => { r with drv := 1#1, dly := 0#32, st := 2#4 }) hr
  · exact congrArg (fun r : Regs => { r with dir := 0#1, clk := 0#32, dly := 0#32, st := 3#4 }) hr
  · exact congrArg (fun r : Regs => { r with dly := 0#32, st := 0#4 }) hr

/-- A tick in a hold. -/
theorem step_hold {s : State} {h : Hold} {p : Pins} {rest : List Event} (ha : admitted s.params = true)
    (hv : s.view = .block) (hh : h ∈ holds s.params) (hst : s.st = h.code) (he : s.events = .tick p :: rest)
    (hp : p.rst = 0#1) : step s = (s.latch p rest).holdTick h.ticks (h.leave (s.latch p rest)) := by
  rw [step_arm ⟨ha, hv, atTick_of_tick he⟩ he hp (hst ▸ decodeState_hold hh)]
  exact exec_hold (s := s.latch p rest) hh

/-- Over the ticks of a hold `dly` counts, up to the last, which makes the exit's writes. -/
theorem steps_hold {s : State} {h : Hold} {ps : List Pins} {rest : List Event} (ha : admitted s.params = true)
    (hv : s.view = .block) (hh : h ∈ holds s.params) (hst : s.st = h.code) (hlt : s.dly.toNat < h.ticks)
    (he : s.events = ps.map .tick ++ rest) (hrst : ∀ p ∈ ps, p.rst = 0#1) (hle : s.dly.toNat + ps.length ≤ h.ticks) :
    ∃ t, steps ps.length s = .next t ∧ t.events = rest ∧
      t.regs = if s.dly.toNat + ps.length = h.ticks then (h.leave s).regs
        else { s.regs with dly := BitVec.ofNat 32 (s.dly.toNat + ps.length) } := by
  induction ps generalizing s with
  | nil =>
    refine ⟨s, rfl, he, ?_⟩
    rw [if_neg (by simpa using hlt.ne), List.length_nil, Nat.add_zero, BitVec.ofNat_toNat, BitVec.setWidth_eq]
    rfl
  | cons p ps ih =>
    obtain ⟨hp, hrst⟩ := List.forall_mem_cons.1 hrst
    rw [List.length_cons] at hle ⊢
    have hs := step_hold ha hv hh hst he hp
    by_cases hlast : s.dly.toNat + 1 = h.ticks
    · obtain rfl : ps = [] := List.length_eq_zero_iff.1 (by omega)
      rw [holdTick_ends (s := s.latch p _) hlast] at hs
      refine ⟨h.leave (s.latch p rest), (steps_one s).trans hs, ?_, ?_⟩
      · obtain rfl | rfl | rfl := holds_cases hh <;> rfl
      · rw [List.length_nil, Nat.zero_add, if_pos hlast]
        exact leave_regs_congr hh rfl
    · rw [holdTick_counts (s := s.latch p _) hlast] at hs
      have hfit : s.dly.toNat + 1 < 2 ^ 32 := by
        have := (holds_admitted ((admitted_iff _).1 ha) hh).2
        omega
      have hdly := countDelay_dly_toNat (s.latch p (ps.map .tick ++ rest)) hfit
      rw [State.latch_dly] at hdly
      obtain ⟨t, ht, hte, htr⟩ := ih (s := (s.latch p (ps.map .tick ++ rest)).countDelay) ha hv hh hst
        (by omega) rfl hrst (by omega)
      have hleave := leave_regs_congr hh (s := s) (u := (s.latch p (ps.map .tick ++ rest)).countDelay) rfl
      rw [hdly, Nat.add_right_comm, Nat.add_assoc, hleave] at htr
      exact ⟨t, (steps_succ _ hs).trans ht, hte, htr⟩

/-- Settles O23: the table of the statement is that of `holds`, and each hold starts from a zero `dly`. -/
theorem holdsLastExactly : Obligations.HoldsLastExactly := by
  intro s ps rest ⟨ha, hv, _⟩ hdly he hrst
  change ∀ row ∈ (holds s.params).map fun h => (h.code, h.ticks, (h.leave s).regs), _
  refine List.forall_mem_map.2 fun h hh hst hle => ?_
  have hpos := (holds_admitted ((admitted_iff _).1 ha) hh).1
  simpa [hdly] using steps_hold ha hv hh hst (by rw [hdly]; exact hpos) he hrst (by simpa [hdly] using hle)

/-! `go` outside IDLE -/

/-- No arm but IDLE's reads `go`. -/
theorem exec_go {i : Instr} {c : BitVec 4} (hc : c ≠ 0#4) (hd : decodeState c = .ok i) (s : State) (x : Bit) :
    mapNext State.regs (exec i { s with pins := { s.pins with go := x } }) = mapNext State.regs (exec i s) := by
  have wait (want : Bit) (limit : Option Nat) (next : BitVec 4) (o : BitVec 3) :
      mapNext State.regs (.next (State.await { s with pins := { s.pins with go := x } } want limit next o)) =
      mapNext State.regs (.next (s.await want limit next o)) := by
    apply await_congr <;> rfl
  obtain ⟨rfl, rfl⟩ | ⟨rfl, rfl⟩ | ⟨rfl, rfl⟩ | ⟨rfl, rfl⟩ | ⟨rfl, rfl⟩ | ⟨rfl, rfl⟩ | ⟨rfl, rfl⟩ | ⟨rfl, rfl⟩ |
    ⟨rfl, rfl⟩ | ⟨rfl, rfl⟩ | ⟨rfl, rfl⟩ := decodeState_cases hd
  · exact absurd rfl hc
  · exact mapNext_ite rfl rfl
  · exact mapNext_ite rfl rfl
  iterate 4 exact wait ..
  · refine mapNext_ite ?_ (mapNext_ite rfl rfl)
    split <;> rfl
  · exact mapNext_ite rfl rfl
  · rfl
  · exact mapNext_ite rfl rfl

/-- Settles O52: `go` selects no action, and the arms of these codes do not read it. -/
theorem goIgnoredOutsideIdle : Obligations.GoIgnoredOutsideIdle := by
  intro s p x rest hv hst
  apply mapNext_step_congr
  · rfl
  · rfl
  · rfl
  · intro c i hc hd
    obtain rfl := nextAction_issue (s := { s with events := .tick p :: rest }) hv rfl hc
    exact exec_go hst hd (s.latch p rest) x

/-! A whole transaction -/

/-- The first tick of a transaction. -/
theorem step_idleGo {s : State} {p : Pins} {rest : List Event} (ha : admitted s.params = true) (hv : s.view = .block)
    (hst : s.st = 0#4) (he : s.events = .tick p :: rest) (hrst : p.rst = 0#1) (hgo : p.go = 1#1) :
    step s = .next (s.latch p rest).startTransaction := by
  rw [step_arm (i := .idle) ⟨ha, hv, atTick_of_tick he⟩ he hrst (by rw [hst]; rfl)]
  exact if_pos hgo

/-- A whole hold from a zero `dly`. -/
theorem steps_wholeHold {s : State} {h : Hold} {ps : List Pins} {rest : List Event} (ha : admitted s.params = true)
    (hv : s.view = .block) (hh : h ∈ holds s.params) (hst : s.st = h.code) (hdly : s.dly = 0#32)
    (he : s.events = ps.map .tick ++ rest) (hrst : ∀ p ∈ ps, p.rst = 0#1) (hlen : ps.length = h.ticks) :
    ∃ t, steps ps.length s = .next t ∧ t.events = rest ∧ t.regs = (h.leave s).regs := by
  have hpos := (holds_admitted ((admitted_iff _).1 ha) hh).1
  simpa [hdly, hlen] using steps_hold ha hv hh hst (by rw [hdly]; exact hpos) he hrst (by simp [hdly, hlen])

/-- The start sequence: `go` in IDLE, START_LOW and START_HIGH lead to the response window with the line released
(R120 to R122). -/
theorem steps_start {s : State} {p : Pins} {hold : List Pins} {rest : List Event} (ha : admitted s.params = true)
    (hv : s.view = .block) (hst : s.st = 0#4) (he : s.events = .tick p :: (hold.map .tick ++ rest))
    (hrst : p.rst = 0#1) (hgo : p.go = 1#1) (hhold : ∀ x ∈ hold, x.rst = 0#1)
    (hlen : hold.length = s.params.tStartLow + s.params.tStartHigh) :
    ∃ t, steps (1 + hold.length) s = .next t ∧ t.events = rest ∧
      t.regs = { s.regs with
        st := 3#4, dir := 0#1, drv := 1#1, clk := 0#32, dly := 0#32, frame := #v[0#8, 0#8, 0#8, 0#8, 0#8],
        bi := 0#6 } := by
  obtain ⟨low, high, rfl, hlow, hhigh⟩ : ∃ low high : List Pins, hold = low ++ high ∧
      low.length = s.params.tStartLow ∧ high.length = s.params.tStartHigh :=
    ⟨_, _, (List.take_append_drop s.params.tStartLow hold).symm, by simp [hlen], by simp [hlen]⟩
  obtain ⟨hlrst, hhrst⟩ := List.forall_mem_append.1 hhold
  rw [List.map_append, List.append_assoc] at he
  have hs := step_idleGo ha hv hst he hrst hgo
  obtain ⟨u, hu, hue, hur⟩ := steps_wholeHold
    (s := (s.latch p (low.map .tick ++ (high.map .tick ++ rest))).startTransaction) (ps := low)
    ha hv (.head _) rfl rfl rfl hlrst hlow
  have hup : u.params = s.params := (steps_params hu :)
  have huv : u.view = s.view := (steps_view hu :)
  obtain ⟨t, ht, hte, htr⟩ := steps_wholeHold (s := u) (ps := high) (hup ▸ ha) (huv.trans hv) (.tail _ (.head _))
    (congrArg Regs.st hur) (congrArg Regs.dly hur) hue hhrst (hup ▸ hhigh)
  refine ⟨t, ?_, hte, htr.trans ?_⟩
  · rw [List.length_append, Nat.add_comm 1, steps_succ _ hs, steps_add _ hu, ht]
  · exact congrArg (fun r : Regs => { r with dir := 0#1, clk := 0#32, dly := 0#32, st := 3#4 }) hur

/-- An answer phase by phase: a wait's last tick is the first sample of the level it waits for. -/
theorem Answer.ticks_succ (high respLow respHigh : Nat) (pulses : List Pulse) :
    Answer.ticks ⟨high, respLow + 1, respHigh + 1, pulses⟩ =
      (List.replicate high (samplePins 1#1)).map .tick ++ .tick (samplePins 0#1) ::
        ((List.replicate respLow (samplePins 0#1)).map .tick ++ .tick (samplePins 1#1) ::
          ((List.replicate respHigh (samplePins 1#1)).map .tick ++ .tick (samplePins 0#1) ::
            pulses.flatMap Pulse.ticks)) := by
  simp only [Answer.ticks, sampleTick_eq, List.map_replicate, List.replicate_succ, List.cons_append]

/-- A wait from a zero clock over `n` samples of one level, ended by a sample of the other. -/
theorem steps_sampleWait {s : State} {w : Wait} {x : Bit} {n : Nat} {rest : List Event}
    (ha : admitted s.params = true) (hv : s.view = .block) (hw : w ∈ waits s.params) (hst : s.st = w.code)
    (hclk : s.clk = 0#32) (hx : x ≠ w.want)
    (he : s.events = (List.replicate n (samplePins x)).map .tick ++ .tick (samplePins w.want) :: rest)
    (hl : ∀ l, w.limit = some l → n < l) :
    ∃ t, steps (n + 1) s = .next t ∧ t.events = rest ∧ t.regs = { s.regs with clk := 0#32, st := w.next } := by
  simpa using steps_waitEnds ha hv hw hst hx he (steady_replicate n x) rfl rfl (by simpa [hclk] using hl)

/-- The response: three waits lead from the released line to the first pulse (R123 to R125). -/
theorem steps_response {s : State} {high respLow respHigh : Nat} {pulses : List Pulse} {rest : List Event}
    (ha : admitted s.params = true) (hv : s.view = .block) (hst : s.st = 3#4) (hclk : s.clk = 0#32)
    (hh : (Answer.mk high (respLow + 1) (respHigh + 1) pulses).heard s.params)
    (he : s.events = Answer.ticks ⟨high, respLow + 1, respHigh + 1, pulses⟩ ++ rest) :
    ∃ t, steps (high + 1 + (respLow + 1) + (respHigh + 1)) s = .next t ∧
      t.events = pulses.flatMap Pulse.ticks ++ rest ∧ t.regs = { s.regs with clk := 0#32, st := 6#4 } := by
  obtain ⟨hhigh, ⟨-, hlow⟩, -, hrespHigh, -, -⟩ := hh
  simp only [Answer.ticks_succ, List.append_assoc, List.cons_append] at he
  obtain ⟨t, ht, hte, htr⟩ := steps_sampleWait ha hv (.head _) hst hclk (bit_ne_zero.2 rfl) he
    fun l e => Option.some.inj e ▸ hhigh
  have htp := steps_params ht
  have htv := (steps_view ht).trans hv
  obtain ⟨u, hu, hue, hur⟩ := steps_sampleWait (htp ▸ ha) htv (.tail _ (.head _)) (congrArg Regs.st htr)
    (congrArg Regs.clk htr) (bit_ne_one.2 rfl) hte fun l e => Option.some.inj e ▸ htp ▸ hlow
  have hup := (steps_params hu).trans htp
  obtain ⟨v, hv', hve, hvr⟩ := steps_sampleWait (hup ▸ ha) ((steps_view hu).trans htv)
    (.tail _ (.tail _ (.head _))) (congrArg Regs.st hur) (congrArg Regs.clk hur) (bit_ne_zero.2 rfl) hue
    fun l e => hrespHigh l (hup ▸ e)
  refine ⟨v, ?_, hve, ?_⟩
  · rw [Nat.add_assoc, steps_add _ ht, steps_add _ hu, hv']
  · rw [hvr, hur, htr]

/-- Pulses hold no reader's access. -/
theorem atTick_of_pulses {s : State} {pulses : List Pulse} {q : Pins} {rest : List Event}
    (he : s.events = pulses.flatMap Pulse.ticks ++ .tick q :: rest) : s.atTick := by
  intro a r h
  have hmem : ∀ p : Pulse, Event.access a ∉ p.ticks := by simp [Pulse.ticks, sampleTick]
  rw [he] at h
  cases hp : pulses.flatMap Pulse.ticks with
  | nil => rw [hp] at h; cases h
  | cons e es =>
    rw [hp] at h
    cases h
    obtain ⟨p, -, hmem'⟩ := List.mem_flatMap.1 (hp ▸ List.mem_cons_self)
    exact hmem p hmem'

/-- A whole answer that the block hears out fills the frame (R250 of 70_reset_and_hazards.md). -/
theorem steps_answer {s : State} {w : Answer} {q : Pins} {rest : List Event} (ha : admitted s.params = true)
    (hv : s.view = .block) (hst : s.st = 3#4) (hclk : s.clk = 0#32) (hbi : s.bi = 0#6) (hh : w.heard s.params)
    (he : s.events = w.ticks ++ .tick q :: rest) :
    ∃ t, steps w.ticks.length s = .next t ∧ t.events = .tick q :: rest ∧
      Spells w.pulses s.params.thresh t.frame ∧
      t.regs = { s.regs with clk := 0#32, frame := t.frame, bi := 40#6, st := 8#4 } := by
  obtain ⟨high, respLow, respHigh, pulses⟩ := w
  have ⟨_, ⟨hlow, _⟩, hhigh, _, hlen, hp⟩ := hh
  obtain ⟨respLow, rfl⟩ : ∃ n, respLow = n + 1 := ⟨respLow - 1, (Nat.sub_add_cancel hlow).symm⟩
  obtain ⟨respHigh, rfl⟩ : ∃ n, respHigh = n + 1 := ⟨respHigh - 1, (Nat.sub_add_cancel hhigh).symm⟩
  obtain ⟨u, hu, hue, hur⟩ := steps_response ha hv hst hclk hh he
  have hup := steps_params hu
  obtain ⟨t, ht, hte, htf, htr⟩ := fortyPulsesFillFrame u pulses _
    ⟨hup ▸ ha, (steps_view hu).trans hv, atTick_of_pulses hue⟩ (congrArg Regs.st hur) (congrArg Regs.clk hur)
    ((congrArg Regs.bi hur).trans hbi) hlen (hup ▸ hp) hue
  have hticks : (Answer.ticks ⟨high, respLow + 1, respHigh + 1, pulses⟩).length =
      high + 1 + (respLow + 1) + (respHigh + 1) + (pulses.flatMap Pulse.ticks).length := by
    simp only [Answer.ticks_succ, List.length_append, List.length_cons, List.length_map, List.length_replicate]
    omega
  refine ⟨t, ?_, hte, hup ▸ htf, ?_⟩
  · rw [hticks, steps_add _ hu, ht]
  · rw [htr, hur]

/-- An abort with the counters at zero. -/
theorem abort_regs_of_zero {s : State} (hclk : s.clk = 0#32) (hdly : s.dly = 0#32) (o : BitVec 3) :
    (s.abort o).regs = { s.regs with st := 10#4, outcome := o } := by
  simp only [State.regs, State.abort, hclk, hdly]

/-- The CHECKSUM_VERIFY tick with the counters at zero, where an abort zeroes nothing: the code and the outcome
(43_check_publish.md R160). -/
theorem step_check {s : State} {q : Pins} {rest : List Event} (ha : admitted s.params = true) (hv : s.view = .block)
    (hst : s.st = 8#4) (hclk : s.clk = 0#32) (hdly : s.dly = 0#32) (he : s.events = .tick q :: rest)
    (hq : q.rst = 0#1) :
    ∃ t, step s = .next t ∧ t.events = rest ∧
      t.regs = { s.regs with
        st := if sumNat s.frame = s.frame[4].toNat ∧ sumNat s.frame ≠ 0 then 9#4 else 10#4
        outcome := if sumNat s.frame ≠ s.frame[4].toNat then 3#3
          else if sumNat s.frame = 0 then 4#3 else s.outcome } := by
  have hs : step s = execChecksumVerify (s.latch q rest) :=
    step_arm (i := .checksumVerify) ⟨ha, hv, atTick_of_tick he⟩ he hq (by rw [hst]; rfl)
  rw [execChecksumVerify, State.latch_frame] at hs
  obtain ⟨hne, e⟩ | ⟨heq, hzero, e⟩ | ⟨heq, hpos, e⟩ := checksumResult_cases s.frame <;> rw [e] at hs
  · refine ⟨_, hs.trans (if_neg (by decide)), rfl, ?_⟩
    rw [if_neg fun h => hne h.1, if_pos hne]
    exact abort_regs_of_zero (s := s.latch q rest) hclk hdly _
  · refine ⟨_, hs.trans (if_neg (by decide)), rfl, ?_⟩
    rw [if_neg fun h => h.2 hzero, if_neg (not_not.2 heq), if_pos hzero]
    exact abort_regs_of_zero (s := s.latch q rest) hclk hdly _
  · refine ⟨_, hs.trans (if_pos rfl), rfl, ?_⟩
    rw [if_pos ⟨heq, hpos⟩, if_neg (not_not.2 heq), if_neg hpos]; rfl

/-- Settles O35: the start sequence, the answer and the checksum's tick, one after another, and `step_publish`. -/
theorem transactionPublishesItsFrame : Obligations.TransactionPublishesItsFrame := by
  intro s p q hold w rest ⟨ha, hv, _⟩ hst he hrst hgo hhold hlen hw hq
  obtain ⟨u, hu, hue, hur⟩ := steps_start ha hv hst he hrst hgo hhold hlen
  have hup := steps_params hu
  have huv := (steps_view hu).trans hv
  obtain ⟨c, hc, hce, hcf, hcr⟩ := steps_answer (hup ▸ ha) huv (congrArg Regs.st hur) (congrArg Regs.clk hur)
    (congrArg Regs.bi hur) (hup ▸ hw) hue
  have hcp := (steps_params hc).trans hup
  have hcv := (steps_view hc).trans huv
  rw [hur] at hcr
  obtain ⟨t, ht, hte, htr⟩ := step_check (hcp ▸ ha) hcv (congrArg Regs.st hcr) (congrArg Regs.clk hcr)
    (congrArg Regs.dly hcr) hce hq
  have hframe : t.frame = c.frame := congrArg Regs.frame htr
  rw [← hframe] at htr
  refine ⟨t, ?_, hte, hframe ▸ hup ▸ hcf, ?_, fun r later hrest hr heq hpos => ?_⟩
  · rw [Nat.add_assoc, steps_add _ hu, steps_add _ hc, steps_one, ht]
  · have houtcome : c.outcome = s.outcome := congrArg Regs.outcome hcr
    rw [htr, hcr, houtcome, hframe]; rfl
  · rw [hrest] at hte
    have htb : t.atBlockTick :=
      ⟨step_params ht ▸ hcp ▸ ha, (step_view ht).trans hcv, atTick_of_tick hte⟩
    have hst9 : t.st = 9#4 := (congrArg Regs.st htr).trans (if_pos ⟨heq, hpos⟩)
    have hstep := step_publish htb (by rw [beginStep_tick hte]; exact hr) hst9
    rw [beginStep_tick hte] at hstep
    have hdly : t.dly = 0#32 := (congrArg Regs.dly htr).trans (congrArg Regs.dly hcr)
    exact ⟨_, hstep, by rw [← hdly]; rfl⟩

end Sys2Proof.Machine

/-! # The statements of 42_bit_loop.md

A pulse ends in `State.appendBit`. What that writes is said here on exact numbers (`appendBit_frame_toNat` and
`appendBit_eq`), once for the tick that ends a pulse and for a whole pulse, which is `steps_pulse`. -/

namespace Sys2Proof.Machine

/-! The appended bit on exact numbers -/

/-- The decision of R144 as a number. -/
theorem classifyWidth_toNat (thresh w : Nat) : (classifyWidth thresh w).toNat = if thresh < w then 1 else 0 := by
  unfold classifyWidth
  split <;> rfl

/-- Byte `j` takes the bit from the right, and the other bytes stand (R145). -/
theorem appendBit_frame_toNat (s : State) (w : Nat) (j i : Fin 5) :
    (s.appendBit w j).frame[i].toNat =
      if i.val = j.val then (2 * s.frame[i].toNat + if s.params.thresh < w then 1 else 0) % 256
      else s.frame[i].toNat := by
  rw [State.appendBit_frame, Fin.getElem_fin]
  by_cases hij : i = j
  · subst hij
    rw [Vector.getElem_set_self, shiftIn_toNat, classifyWidth_toNat, if_pos rfl]
  · have hne : i.val ≠ j.val := fun e => hij (Fin.ext e)
    rw [Vector.getElem_set_ne _ _ hne.symm, if_neg hne]
    rfl

/-- Beside the frame and the index, the end of a pulse writes the clock and the code: on to CHECKSUM_VERIFY after bit 39
(R142). -/
theorem appendBit_eq (s : State) (w : Nat) (j : Fin 5) :
    s.appendBit w j = { s with
      frame := (s.appendBit w j).frame
      bi := (s.appendBit w j).bi
      clk := 0#32
      st := if s.bi.toNat = 39 then 8#4 else 6#4 } := by
  have hlast : s.bi = 39#6 ↔ s.bi.toNat = 39 := BitVec.toNat_inj.symm
  simp only [← hlast]
  rfl

/-! One tick of BIT_MEASURE -/

/-- A High sample at the limit aborts the transaction (R142). -/
theorem exec_pulseTimesOut {s : State} (hl : s.pins.line = 1#1)
    (hn : s.params.bitTimeout = some (satInc s.clk).toNat) :
    exec .bitMeasure s = .next (s.abort outcomeBitTimeout) := by
  have hl0 : ¬ s.pins.line = 0#1 := bit_ne_zero.2 hl
  simp only [exec, execBitMeasure, if_neg hl0, if_pos hn]

/-- Settles O24: the three samples BIT_MEASURE tells apart. -/
theorem bitMeasureArm : Obligations.BitMeasureArm := by
  refine ⟨rfl, fun s => ⟨fun hl hbi => ?ends, exec_pulseTimesOut, exec_pulseCounts⟩⟩
  case ends =>
    have hj : s.bi.toNat / 8 < 5 := by omega
    exact ⟨_, exec_pulseEnds (j := ⟨s.bi.toNat / 8, hj⟩) rfl hl, appendBit_frame_toNat s _ _,
      appendBit_bi_toNat _ _ hbi, appendBit_eq s _ _⟩

/-- Settles O25: from `bi = 40` on there is no byte `bi div 8` of five. -/
theorem bitMeasureBeyondFrame : Obligations.BitMeasureBeyondFrame := by
  intro s hl hbi
  have hj : ¬ s.bi.toNat / 8 < 5 := by omega
  simp only [exec, execBitMeasure, if_pos hl, dif_neg hj]

/-! A whole pulse -/

theorem Pulse.ticks_length (p : Pulse) : p.ticks.length = p.low + p.high + 1 := by
  simp [Pulse.ticks, Nat.add_assoc]

/-- Settles O26: `steps_pulse`, with the appended bit on exact numbers. -/
theorem pulseDecodesToBit : Obligations.PulseDecodesToBit := by
  intro s p rest ⟨ha, hv, _⟩ hst hclk hbi hp he
  have hj : s.bi.toNat / 8 < 5 := by omega
  obtain ⟨t, ht, hte, htr⟩ := steps_pulse (j := ⟨s.bi.toNat / 8, hj⟩) ha hv hst hclk rfl hp he
  have htf : t.frame = (s.appendBit p.high ⟨s.bi.toNat / 8, hj⟩).frame := congrArg Regs.frame htr
  have htb : t.bi = (s.appendBit p.high ⟨s.bi.toNat / 8, hj⟩).bi := congrArg Regs.bi htr
  rw [Pulse.ticks_length] at ht
  refine ⟨t, ht, hte, ?frame, ?index, ?regs⟩
  case frame => rw [htf]; exact appendBit_frame_toNat s _ _
  case index => rw [htb]; exact appendBit_bi_toNat _ _ hbi
  case regs =>
    rw [htf, htb, htr, appendBit_eq, ← hclk]
    rfl

/-! CLASSIFY -/

/-- Settles O29: the word of R149 for every `n`, and the decision of R144 on `n` after the clock's count. -/
theorem classifyPrimitive : Obligations.ClassifyPrimitive :=
  fun _ n => ⟨by simpa using decode_fields (i := .classify n) rfl rfl, rfl⟩

end Sys2Proof.Machine

/-! # The statements of 43_check_publish.md

`checksumResult_cases` is the decision both users of the checksum share: CHECKSUM_VERIFY acts on its code, CHECKSUM
answers with its verdict. COOLDOWN is a hold, and has the rules of one. -/

namespace Sys2Proof.Machine

/-! The checksum on exact numbers -/

section
variable {f : Vector Byte 5}

/-- The mismatch comes before the zero test (R162). -/
theorem checksumResult_of_ne (hne : sumNat f ≠ f[4].toNat) : checksumResult f = outcomeMismatch := by
  obtain ⟨_, e⟩ | ⟨heq, _⟩ | ⟨heq, _⟩ := checksumResult_cases f
  · exact e
  · exact absurd heq hne
  · exact absurd heq hne

theorem checksumResult_of_eq_zero (heq : sumNat f = f[4].toNat) (hzero : sumNat f = 0) :
    checksumResult f = outcomeAllZero := by
  obtain ⟨hne, _⟩ | ⟨_, _, e⟩ | ⟨_, hpos, _⟩ := checksumResult_cases f
  · exact absurd heq hne
  · exact e
  · exact absurd hzero hpos

/-- R160's acceptance: `sum == byte4 AND sum != 0`. -/
theorem checksumResult_accepted_iff :
    checksumResult f = outcomeAccepted ↔ sumNat f = f[4].toNat ∧ sumNat f ≠ 0 := by
  obtain ⟨hne, e⟩ | ⟨_, hzero, e⟩ | ⟨heq, hpos, e⟩ := checksumResult_cases f <;> rw [e]
  · exact ⟨fun h => absurd h (by decide), fun h => absurd h.1 hne⟩
  · exact ⟨fun h => absurd h (by decide), fun h => absurd hzero h.2⟩
  · exact ⟨fun _ => ⟨heq, hpos⟩, fun _ => rfl⟩

theorem checksumVerdict_eq :
    checksumVerdict f = if sumNat f = f[4].toNat ∧ sumNat f ≠ 0 then .accepted else .rejected := by
  simp only [checksumVerdict, checksumResult_accepted_iff]

end

/-! CHECKSUM_VERIFY and CHECKSUM -/

/-- Any code but the accepting one is raised (R160). -/
theorem exec_checksumRejects {s : State} {o : BitVec 3} (hr : checksumResult s.frame = o) (ho : o ≠ outcomeAccepted) :
    exec .checksumVerify s = .next (s.abort o) := by
  subst hr
  exact if_neg ho

/-- Settles O30: each of the three results of the checksum decides the tick. -/
theorem checksumVerifyArm : Obligations.ChecksumVerifyArm := by
  refine ⟨rfl, fun s => ⟨fun heq hpos => ?accepted, fun hne => ?mismatch, fun heq hzero => ?allZero⟩⟩
  case accepted => exact if_pos (checksumResult_accepted_iff.2 ⟨heq, hpos⟩)
  case mismatch => exact exec_checksumRejects (checksumResult_of_ne hne) (by decide)
  case allZero => exact exec_checksumRejects (checksumResult_of_eq_zero heq hzero) (by decide)

/-- Settles O33: the verdict, on exact numbers, after the clock's count. -/
theorem checksumPrimitive : Obligations.ChecksumPrimitive := by
  refine ⟨rfl, fun s => ?_⟩
  rw [← checksumVerdict_eq]
  rfl

/-! PUBLISH, COOLDOWN and the store -/

/-- Settles O31: `State.storePublish` and PUBLISH's own three writes are one commit. -/
theorem publishArm : Obligations.PublishArm :=
  ⟨rfl, fun _ => rfl⟩

/-- Settles O32: the three cases of a hold. -/
theorem cooldownArm : Obligations.CooldownArm :=
  ⟨rfl, fun _ => ⟨holdTick_ends, holdTick_countsExactly, fun hn _ => ⟨_, holdTick_counts hn⟩⟩⟩

/-- Settles O34: `State.storePublish` after the clock's count, and a response with the pair as it stands. -/
theorem storePrimitives : Obligations.StorePrimitives :=
  ⟨rfl, rfl, fun _ => ⟨rfl, rfl⟩⟩

end Sys2Proof.Machine

/-! # The statements of 60_exceptions.md

Of the state arms only BIT_MEASURE can fault, and R39 (e) keeps its index inside the frame; so a tick of the block
completes, and with the invariant a run of ticks does. The hang of R205 is `steps_count` with no limit to reach. -/

namespace Sys2Proof.Machine

/-! Progress of the block -/

/-- Every legal state code is an instruction (R70). -/
theorem decodeState_legal {c : BitVec 4} (h : c.toNat ≤ 10) : ∃ i, decodeState c = .ok i := by
  obtain rfl | rfl | rfl | rfl | rfl | rfl | rfl | rfl | rfl | rfl | rfl := code_cases c h <;> exact ⟨_, rfl⟩

/-- A choice between two next states is a next state. -/
theorem exists_next_ite {c : Prop} [Decidable c] (t u : State) :
    ∃ v, (if c then .next t else .next u : Host.Outcome State Fault Refusal) = .next v :=
  ⟨if c then t else u, (apply_ite _ c t u).symm⟩

/-- Inside the frame every sample has its answer in BIT_MEASURE. -/
theorem exec_bitMeasure_completes {s : State} (hbi : s.bi.toNat < 40) : ∃ t, exec .bitMeasure s = .next t := by
  obtain hl | hl := bit_cases s.pins.line
  · have hj : s.bi.toNat / 8 < 5 := by omega
    exact ⟨_, exec_pulseEnds (j := ⟨s.bi.toNat / 8, hj⟩) rfl hl⟩
  · by_cases hn : s.params.bitTimeout = some (satInc s.clk).toNat
    · exact ⟨_, exec_pulseTimesOut hl hn⟩
    · exact ⟨_, exec_pulseCounts hl hn⟩

/-- Every state arm answers a next state, BIT_MEASURE's on the condition of R39 (e). -/
theorem exec_arm_completes {i : Instr} {s : State} (hd : decodeState s.st = .ok i)
    (hbi : s.st = stBitMeasure → s.bi.toNat < 40) : ∃ t, exec i s = .next t := by
  obtain ⟨-, rfl⟩ | ⟨-, rfl⟩ | ⟨-, rfl⟩ | ⟨-, rfl⟩ | ⟨-, rfl⟩ | ⟨-, rfl⟩ | ⟨-, rfl⟩ | ⟨hst, rfl⟩ | ⟨-, rfl⟩ | ⟨-, rfl⟩ |
    ⟨-, rfl⟩ := decodeState_cases hd
  · -- IDLE
    exact exists_next_ite ..
  · -- START_LOW
    exact exists_next_ite ..
  · -- START_HIGH
    exact exists_next_ite ..
  · -- AWAIT_RESP_LOW
    exact ⟨_, rfl⟩
  · -- AWAIT_RESP_HIGH
    exact ⟨_, rfl⟩
  · -- BIT_SYNC
    exact ⟨_, rfl⟩
  · -- BIT_WAIT_HIGH
    exact ⟨_, rfl⟩
  · -- BIT_MEASURE
    exact exec_bitMeasure_completes (hbi hst)
  · -- CHECKSUM_VERIFY
    exact exists_next_ite ..
  · -- PUBLISH
    exact ⟨_, rfl⟩
  · -- COOLDOWN
    exact exists_next_ite ..

/-- Settles O15: by R39 (a) the code in `st` is an arm, and by R39 (e) the arm completes. -/
theorem blockTickCompletes : Obligations.BlockTickCompletes := by
  intro s ⟨_, hspec, _⟩ hb
  obtain hr | hr := bit_cases s.beginStep.pins.rst
  · obtain ⟨i, hd⟩ := decodeState_legal hspec.stLegal
    rw [step_block hb hr, issue_ok (c := .state s.st) hd]
    refine exec_arm_completes (by rw [beginStep_st]; exact hd) fun hst => ?_
    rw [beginStep_st] at hst
    rw [beginStep_bi]
    exact hspec.biOpen (.inr (.inr hst))
  · exact ⟨_, step_reset hb hr⟩

/-! Runs of the block -/

/-- Taking the next action leaves those after it; past the end of the list there stay none. -/
theorem beginStep_events (s : State) : s.beginStep.events = s.events.tail := by
  unfold State.beginStep
  split <;> simp only [State.latch_events, *, List.tail_cons, List.tail_nil]

/-- A run of the block that no reader interrupts: the invariant, an admitted configuration, and samples of ticks as
the environment's only coming actions. -/
structure TickRun (s : State) : Prop where
  inv : BlockInv s
  config : admitted s.params = true
  ticks : ∃ ps : List Pins, s.events = ps.map .tick

theorem TickRun.atBlockTick {s : State} (h : TickRun s) : s.atBlockTick := by
  obtain ⟨hinv, ha, ps, he⟩ := h
  refine ⟨ha, hinv.blockView, fun a rest hacc => ?_⟩
  have hmem : Event.access a ∈ ps.map .tick := he ▸ hacc ▸ List.mem_cons_self
  obtain ⟨p, -, hp⟩ := List.mem_map.1 hmem
  cases hp

theorem TickRun.step {s t : State} (hs : TickRun s) (h : step s = .next t) : TickRun t := by
  obtain ⟨hinv, ha, ps, he⟩ := hs
  have hevents : t.events = s.beginStep.events := congrArg Setting.events (step_setting h)
  refine ⟨stepKeepsInv s t hinv h, step_params h ▸ ha, ps.tail, ?_⟩
  rw [hevents, beginStep_events, he, List.map_tail]

/-- What every step keeps and lets every step complete lets every run complete. -/
theorem steps_complete {P : State → Prop} (progress : ∀ s, P s → ∃ t, step s = .next t)
    (keep : ∀ s t, P s → step s = .next t → P t) {s : State} (hs : P s) (n : Nat) : ∃ t, steps n s = .next t := by
  induction n generalizing s with
  | zero => exact ⟨s, rfl⟩
  | succ n ih =>
    obtain ⟨u, hu⟩ := progress s hs
    rw [steps_succ n hu]
    exact ih (keep s u hs hu)

/-- Settles O16: the run from reset is a `TickRun`, and O15 is the progress of one. -/
theorem noFaultFromReset : Obligations.NoFaultFromReset := by
  intro p ps n ha
  have hreset : TickRun { State.reset with params := p, events := ps.map .tick } :=
    ⟨resetMeetsInv p _ ha, ha, ps, rfl⟩
  exact steps_complete (fun s hs => blockTickCompletes s hs.inv hs.atBlockTick) (fun _ _ => TickRun.step) hreset n

/-! The hang without BIT_TIMEOUT -/

/-- The three arms of the bit loop count every sample they do not wait for, short of BIT_TIMEOUT. -/
theorem exec_bitLoopCounts {c : BitVec 4} {x : Bit} (h : c = 5#4 ∧ x = 1#1 ∨ c = 6#4 ∧ x = 0#1 ∨ c = 7#4 ∧ x = 1#1) :
    ∃ i, decodeState c = .ok i ∧ ∀ u : State, u.pins.line = x → u.params.bitTimeout ≠ some (satInc u.clk).toNat →
      exec i u = .next { u with clk := satInc u.clk } := by
  obtain ⟨rfl, rfl⟩ | ⟨rfl, rfl⟩ | ⟨rfl, rfl⟩ := h
  · -- BIT_SYNC
    exact ⟨.bitSync, rfl, fun u hl => exec_waitCounts (.tail _ (.tail _ (.head _))) (bit_ne_zero.2 hl)⟩
  · -- BIT_WAIT_HIGH
    exact ⟨.bitWaitHigh, rfl, fun u hl => exec_waitCounts (.tail _ (.tail _ (.tail _ (.head _)))) (bit_ne_one.2 hl)⟩
  · -- BIT_MEASURE
    exact ⟨.bitMeasure, rfl, fun u hl => exec_pulseCounts hl⟩

/-- Settles O28: with no limit to reach, `steps_count` has no bound on its samples. -/
theorem unboundedWaitHangs : Obligations.UnboundedWaitHangs := by
  intro s x ps rest ⟨ha, hv, _⟩ hnone hst he hps
  obtain ⟨i, hd, counts⟩ := exec_bitLoopCounts hst
  exact steps_count (limit := s.params.bitTimeout) ha hv hd (fun u hp hl hn => counts u hl (hp ▸ hn)) he hps
    (by rw [hnone]; nofun)

end Sys2Proof.Machine

/-! # The statement of 70_reset_and_hazards.md

The reset arm's writes depend on the state through the key of the draw alone, and a tick with `rst = 1` leaves the key
as it is (log entry 3). So a state that the reset arm leaves as it was keeps its registers for as long as `rst` is held. -/

namespace Sys2Proof.Machine

/-- States with the same key of the draw reset to the same registers. -/
theorem resetArm_regs_congr {s u : State} (h : u.drawKey = s.drawKey) : u.resetArm.regs = s.resetArm.regs := by
  simp only [State.regs, State.resetArm, h]

/-- The key of the draw stands still in a block tick with `rst = 1`. -/
theorem latch_drawKey_of_reset {s : State} {p : Pins} (rest : List Event) (hv : s.view = .block) (hp : p.rst = 1#1) :
    (s.latch p rest).drawKey = s.drawKey :=
  if_pos ⟨hv, hp⟩

/-- A listed tick of the block view with `rst = 1` is the reset arm. -/
theorem step_resetTick {s : State} {p : Pins} {rest : List Event} (h : s.atBlockTick)
    (he : s.events = .tick p :: rest) (hp : p.rst = 1#1) : step s = .next (s.latch p rest).resetArm := by
  have hb : s.beginStep = s.latch p rest := beginStep_tick he
  rw [step_reset h (by rw [hb]; exact hp), hb]

/-- Where the reset arm changes no register, any number of ticks with `rst = 1` changes none. -/
theorem steps_heldReset {s : State} {ps : List Pins} {rest : List Event} (ha : admitted s.params = true)
    (hv : s.view = .block) (hfix : s.resetArm.regs = s.regs) (he : s.events = ps.map .tick ++ rest)
    (hps : ∀ q ∈ ps, q.rst = 1#1) :
    ∃ u, steps ps.length s = .next u ∧ u.regs = s.regs ∧ u.events = rest := by
  induction ps generalizing s with
  | nil => exact ⟨s, rfl, rfl, he⟩
  | cons p ps ih =>
    obtain ⟨hp, hps⟩ := List.forall_mem_cons.1 hps
    have hs := step_resetTick ⟨ha, hv, atTick_of_tick he⟩ he hp
    have hkeep : (s.latch p (ps.map .tick ++ rest)).resetArm.regs = s.regs :=
      (resetArm_regs_congr (latch_drawKey_of_reset _ hv hp)).trans hfix
    obtain ⟨u, hu, hregs, hevents⟩ := ih (s := (s.latch p (ps.map .tick ++ rest)).resetArm) ha hv rfl rfl hps
    exact ⟨u, (steps_succ _ hs).trans hu, hregs.trans hkeep, hevents⟩

/-- Settles O8: the first tick is the reset arm, after which the reset arm changes no register. -/
theorem resetHeldIsStable : Obligations.ResetHeldIsStable := by
  intro s t p ps rest hv he hp hps h
  have ha : admitted s.params = true := admitted_of_step h
  have hs := step_resetTick ⟨ha, hv, atTick_of_tick he⟩ he hp
  obtain rfl : (s.latch p (ps.map .tick ++ rest)).resetArm = t := Host.Outcome.next.inj (hs.symm.trans h)
  obtain ⟨u, hu, hregs, hevents⟩ :=
    steps_heldReset (s := (s.latch p (ps.map .tick ++ rest)).resetArm) ha hv rfl rfl hps
  exact ⟨u, (steps_succ _ h).trans hu, hregs, hevents⟩

end Sys2Proof.Machine
